-- ==== Sys2Proof/Word.lean ====
section
/-! DEFINITION. The word types of the machine and the plain data types its registers hold: the elements of the
field tower and the points of the two curves. An Fp value carries its own reduction, so no unreduced value can be
built (10_state.md R31, R32). The operations on these types are in Machine/Tower.lean and Machine/Curve.lean. -/

namespace Sys2Proof

/-- An instruction word and a host word (30_encoding.md R110, 20_memory.md R83). -/
abbrev Word := BitVec 32

/-- A byte of data memory (20_memory.md R80). -/
abbrev Byte := BitVec 8

/-- A register index, x0..x31 (30_encoding.md R113). -/
abbrev RegIdx := BitVec 5

/-- The unsigned 9-bit immediate (30_encoding.md R114). -/
abbrev Imm9 := BitVec 9

/-- A scalar, 0 ≤ k < 2^256 (10_state.md R31, tag SC). -/
abbrev Scalar := BitVec 256

/-- The field modulus (00_scope.md R7, 42_fp.md R210). -/
def P : Nat :=
  21888242871839275222246405745257275088696311157297823662689037894645226208583

theorem P_pos : 0 < P := by decide

/-- An element of Fp: an integer in [0, P) (42_fp.md R210). -/
structure Fp where
  val : Nat
  lt : val < P
  deriving DecidableEq, Repr

/-- The residue of a natural number (00_scope.md R10, "a mod P"). -/
def Fp.ofNat (n : Nat) : Fp := ⟨n % P, Nat.mod_lt n P_pos⟩

/-- c0 + c1·u, c0 real and c1 imaginary (00_scope.md R14, 43_fp2.md R250). -/
structure Fp2 where
  c0 : Fp
  c1 : Fp
  deriving DecidableEq, Repr

/-- c0 + c1·v + c2·v² over Fp2 (44_fp6.md R290). -/
structure Fp6 where
  c0 : Fp2
  c1 : Fp2
  c2 : Fp2
  deriving DecidableEq, Repr

/-- c0 + c1·w over Fp6 (45_fp12.md R320). -/
structure Fp12 where
  c0 : Fp6
  c1 : Fp6
  deriving DecidableEq, Repr

/-- A point: the point at infinity O, or affine coordinates (00_scope.md R15). That the coordinates lie on the
curve is a predicate (`G1.onCurve`, `G2.onCurve`), checked where points enter and kept by every step. -/
inductive Pt (F : Type) where
  | inf
  | aff (x y : F)
  deriving DecidableEq, Repr

/-- G1 points, y² = x³ + 3 over Fp (46_g1.md R360). -/
abbrev G1 := Pt Fp

/-- G2 points, y² = x³ + b₂ over Fp2 (47_g2.md R390). -/
abbrev G2 := Pt Fp2

end Sys2Proof
end

