-- ==== Sys2Proof/Machine/Tower.lean ====
section
/-! DEFINITION. The field tower Fp, Fp2, Fp6, Fp12 (42_fp.md §1, 43_fp2.md §1, 44_fp6.md §1, 45_fp12.md §1).
Every operation is exact integer arithmetic reduced mod P at the end. -/

namespace Sys2Proof

/-! ## Square and multiply -/

/-- The loop of 00_scope.md R16 over the bits below `i` of `e`, most significant first: acc ← acc·acc, then
acc ← acc·a where the bit is 1. The same loop with addition is `mul(A, k)` of 46_g1.md R360. -/
def sqMulLoop {T : Type} (op : T → T → T) (a : T) (e : Nat) : Nat → T → T
  | 0, acc => acc
  | i + 1, acc =>
    let sq := op acc acc
    sqMulLoop op a e i (if e.testBit i then op sq a else sq)

/-- bitlen(e), with bitlen(0) = 0 (00_scope.md R16). -/
def bitlen (e : Nat) : Nat := if e = 0 then 0 else Nat.log2 e + 1

/-- `pow_T(a, e)` for the operation `op` with unit `one` (00_scope.md R16). -/
def sqMul {T : Type} (op : T → T → T) (one a : T) (e : Nat) : T :=
  sqMulLoop op a e (bitlen e) one

/-! ## Fp (42_fp.md R210) -/

def Fp.zero : Fp := Fp.ofNat 0
def Fp.one : Fp := Fp.ofNat 1
def Fp.add (a b : Fp) : Fp := Fp.ofNat (a.val + b.val)
def Fp.sub (a b : Fp) : Fp := Fp.ofNat (a.val + (P - b.val))
def Fp.neg (a : Fp) : Fp := Fp.ofNat (P - a.val)
def Fp.mul (a b : Fp) : Fp := Fp.ofNat (a.val * b.val)
def Fp.pow (a : Fp) (e : Nat) : Fp := sqMul Fp.mul Fp.one a e

/-- inv(a) for a ≠ 0, by Fermat's little theorem; the method is not observable (42_fp.md R211). -/
def Fp.inv (a : Fp) : Fp := a.pow (P - 2)

/-! ## Fp2 = Fp[u]/(u² + 1) (43_fp2.md R250, R251) -/

def Fp2.zero : Fp2 := ⟨Fp.zero, Fp.zero⟩
def Fp2.one : Fp2 := ⟨Fp.one, Fp.zero⟩
def Fp2.add (a b : Fp2) : Fp2 := ⟨a.c0.add b.c0, a.c1.add b.c1⟩
def Fp2.sub (a b : Fp2) : Fp2 := ⟨a.c0.sub b.c0, a.c1.sub b.c1⟩
def Fp2.neg (a : Fp2) : Fp2 := ⟨a.c0.neg, a.c1.neg⟩

def Fp2.mul (a b : Fp2) : Fp2 :=
  ⟨(a.c0.mul b.c0).sub (a.c1.mul b.c1), (a.c0.mul b.c1).add (a.c1.mul b.c0)⟩

def Fp2.conj (a : Fp2) : Fp2 := ⟨a.c0, a.c1.neg⟩

/-- norm(a) = a0² + a1², an Fp value. -/
def Fp2.norm (a : Fp2) : Fp := (a.c0.mul a.c0).add (a.c1.mul a.c1)

/-- inv(a) = (a0·inv(n), −a1·inv(n)) with n = norm(a). -/
def Fp2.inv (a : Fp2) : Fp2 :=
  let ni := a.norm.inv
  ⟨a.c0.mul ni, (a.c1.mul ni).neg⟩

def Fp2.pow (a : Fp2) (e : Nat) : Fp2 := sqMul Fp2.mul Fp2.one a e

/-- An Fp2 value scaled by an Fp value (48_pairing.md R422). -/
def Fp2.scale (a : Fp2) (k : Fp) : Fp2 := ⟨a.c0.mul k, a.c1.mul k⟩

/-- An Fp value as (a, 0) (43_fp2.md R267). -/
def Fp2.ofFp (a : Fp) : Fp2 := ⟨a, Fp.zero⟩

/-- ξ = 9 + u (43_fp2.md R251). -/
def Fp2.xi : Fp2 := ⟨Fp.ofNat 9, Fp.ofNat 1⟩

/-- ξ·a = (9·a0 − a1, a0 + 9·a1) (43_fp2.md R251). -/
def Fp2.mulXi (a : Fp2) : Fp2 :=
  ⟨((Fp.ofNat 9).mul a.c0).sub a.c1, a.c0.add ((Fp.ofNat 9).mul a.c1)⟩

/-- a ↦ a^(P^k): conj when k is odd (43_fp2.md R263). -/
def Fp2.frob (a : Fp2) (k : Nat) : Fp2 := if k % 2 = 0 then a else a.conj

/-! ## Fp6 = Fp2[v]/(v³ − ξ) (44_fp6.md R290, R291) -/

def Fp6.zero : Fp6 := ⟨Fp2.zero, Fp2.zero, Fp2.zero⟩
def Fp6.one : Fp6 := ⟨Fp2.one, Fp2.zero, Fp2.zero⟩
def Fp6.add (a b : Fp6) : Fp6 := ⟨a.c0.add b.c0, a.c1.add b.c1, a.c2.add b.c2⟩
def Fp6.sub (a b : Fp6) : Fp6 := ⟨a.c0.sub b.c0, a.c1.sub b.c1, a.c2.sub b.c2⟩
def Fp6.neg (a : Fp6) : Fp6 := ⟨a.c0.neg, a.c1.neg, a.c2.neg⟩

/-- The schoolbook product reduced by v³ = ξ (R290). -/
def Fp6.mul (a b : Fp6) : Fp6 :=
  ⟨(a.c0.mul b.c0).add ((a.c1.mul b.c2).add (a.c2.mul b.c1)).mulXi,
   ((a.c0.mul b.c1).add (a.c1.mul b.c0)).add (a.c2.mul b.c2).mulXi,
   ((a.c0.mul b.c2).add (a.c1.mul b.c1)).add (a.c2.mul b.c0)⟩

/-- v·a = (ξ·a2, a0, a1) (R290). -/
def Fp6.mulV (a : Fp6) : Fp6 := ⟨a.c2.mulXi, a.c0, a.c1⟩

/-- An Fp6 value with every slot multiplied by an Fp2 value. -/
def Fp6.scale (a : Fp6) (k : Fp2) : Fp6 := ⟨a.c0.mul k, a.c1.mul k, a.c2.mul k⟩

/-- The adjugate (A, B, C) of the inverse formula (R291). -/
def Fp6.adj (a : Fp6) : Fp6 :=
  ⟨(a.c0.mul a.c0).sub (a.c1.mul a.c2).mulXi,
   (a.c2.mul a.c2).mulXi.sub (a.c0.mul a.c1),
   (a.c1.mul a.c1).sub (a.c0.mul a.c2)⟩

/-- F = a0·A + ξ·(a2·B + a1·C), the norm of a down to Fp2 (R291). -/
def Fp6.norm (a : Fp6) : Fp2 :=
  (a.c0.mul a.adj.c0).add ((a.c2.mul a.adj.c1).add (a.c1.mul a.adj.c2)).mulXi

/-- inv(a) = (A, B, C)·inv(F) (R291). -/
def Fp6.inv (a : Fp6) : Fp6 := a.adj.scale a.norm.inv

def Fp6.pow (a : Fp6) (e : Nat) : Fp6 := sqMul Fp6.mul Fp6.one a e

/-- An Fp2 value as (c, 0, 0) (44_fp6.md R304). -/
def Fp6.ofFp2 (c : Fp2) : Fp6 := ⟨c, Fp2.zero, Fp2.zero⟩

/-! ## The Frobenius constants (45_fp12.md R336) -/

/-- γ1[i] = ξ^(i·(P−1)/6), computed from ξ as R336 allows. -/
def gamma1 (i : Nat) : Fp2 := Fp2.xi.pow (i * (P - 1) / 6)

/-- γ2[i] = ξ^(i·(P²−1)/6). -/
def gamma2 (i : Nat) : Fp2 := Fp2.xi.pow (i * (P ^ 2 - 1) / 6)

/-- One round of the Frobenius map on Fp6 (44_fp6.md R301). -/
def Fp6.frobRound (y : Fp6) : Fp6 :=
  ⟨y.c0.conj, y.c1.conj.mul (gamma1 2), y.c2.conj.mul (gamma1 4)⟩

/-- a ↦ a^(P^k): k mod 6 rounds (44_fp6.md R301). -/
def Fp6.frob (a : Fp6) (k : Nat) : Fp6 := Nat.iterate Fp6.frobRound (k % 6) a

/-! ## Fp12 = Fp6[w]/(w² − v) (45_fp12.md R320) -/

def Fp12.zero : Fp12 := ⟨Fp6.zero, Fp6.zero⟩
def Fp12.one : Fp12 := ⟨Fp6.one, Fp6.zero⟩
def Fp12.add (a b : Fp12) : Fp12 := ⟨a.c0.add b.c0, a.c1.add b.c1⟩
def Fp12.sub (a b : Fp12) : Fp12 := ⟨a.c0.sub b.c0, a.c1.sub b.c1⟩
def Fp12.neg (a : Fp12) : Fp12 := ⟨a.c0.neg, a.c1.neg⟩

def Fp12.mul (a b : Fp12) : Fp12 :=
  ⟨(a.c0.mul b.c0).add (a.c1.mul b.c1).mulV, (a.c0.mul b.c1).add (a.c1.mul b.c0)⟩

/-- The involution w ↦ −w (R320). -/
def Fp12.conj (a : Fp12) : Fp12 := ⟨a.c0, a.c1.neg⟩

/-- t = a0² − v·a1², an Fp6 value (R320). -/
def Fp12.norm (a : Fp12) : Fp6 := (a.c0.mul a.c0).sub (a.c1.mul a.c1).mulV

/-- inv(a) = (a0·inv(t), −a1·inv(t)) (R320). -/
def Fp12.inv (a : Fp12) : Fp12 :=
  let ti := a.norm.inv
  ⟨a.c0.mul ti, (a.c1.mul ti).neg⟩

def Fp12.pow (a : Fp12) (e : Nat) : Fp12 := sqMul Fp12.mul Fp12.one a e

/-- An Fp6 value as (c, 0) (45_fp12.md R337). -/
def Fp12.ofFp6 (c : Fp6) : Fp12 := ⟨c, Fp6.zero⟩

/-- The w-power view: the value Σ gᵢ·wⁱ with g0..g5 in Fp2 (45_fp12.md R322). -/
def Fp12.ofW (g0 g1 g2 g3 g4 g5 : Fp2) : Fp12 := ⟨⟨g0, g2, g4⟩, ⟨g1, g3, g5⟩⟩

/-- One round of the Frobenius map: gᵢ ↦ conj(gᵢ)·γ1[i] in the w-power view (45_fp12.md R333). -/
def Fp12.frobRound (y : Fp12) : Fp12 :=
  Fp12.ofW (y.c0.c0.conj.mul (gamma1 0)) (y.c1.c0.conj.mul (gamma1 1)) (y.c0.c1.conj.mul (gamma1 2))
    (y.c1.c1.conj.mul (gamma1 3)) (y.c0.c2.conj.mul (gamma1 4)) (y.c1.c2.conj.mul (gamma1 5))

/-- a ↦ a^(P^k): k mod 12 rounds (45_fp12.md R333). -/
def Fp12.frob (a : Fp12) (k : Nat) : Fp12 := Nat.iterate Fp12.frobRound (k % 12) a

/-! ## Coefficients in index order (20_memory.md R96) -/

def Fp2.coeffs (a : Fp2) : List Fp := [a.c0, a.c1]
def Fp6.coeffs (a : Fp6) : List Fp := a.c0.coeffs ++ a.c1.coeffs ++ a.c2.coeffs
def Fp12.coeffs (a : Fp12) : List Fp := a.c0.coeffs ++ a.c1.coeffs

/-- Coefficient `i` of a list of coefficients in index order. -/
def coeffAt (cs : List Fp) (i : Nat) : Fp := cs.getD i Fp.zero

end Sys2Proof
end

