-- ==== Sys2Proof/Machine/Curve.lean ====
section
/-! DEFINITION. The two curve groups: curve equations (41_load_store.md R189), the chord-and-tangent law
(46_g1.md R360, 47_g2.md R390) written once over a record of field operations, and the Frobenius maps of the twist
(47_g2.md R391). -/

namespace Sys2Proof

/-- The operations the group law uses, of Fp or of Fp2. -/
structure FieldOps (F : Type) where
  zero : F
  add : F → F → F
  sub : F → F → F
  mul : F → F → F
  neg : F → F
  inv : F → F

def fpOps : FieldOps Fp := ⟨Fp.zero, Fp.add, Fp.sub, Fp.mul, Fp.neg, Fp.inv⟩
def fp2Ops : FieldOps Fp2 := ⟨Fp2.zero, Fp2.add, Fp2.sub, Fp2.mul, Fp2.neg, Fp2.inv⟩

section GroupLaw
variable {F : Type} (o : FieldOps F)

/-- y² − x³ − b = 0 (R189). -/
def curveEq [DecidableEq F] (b x y : F) : Bool :=
  decide (o.sub (o.sub (o.mul y y) (o.mul (o.mul x x) x)) b = o.zero)

/-- The tangent's slope, (3·x²)·inv(2·y). -/
def tangentSlope (x y : F) : F :=
  let xx := o.mul x x
  o.mul (o.add (o.add xx xx) xx) (o.inv (o.add y y))

/-- The chord's slope, (y2 − y1)·inv(x2 − x1). -/
def chordSlope (x1 y1 x2 y2 : F) : F := o.mul (o.sub y2 y1) (o.inv (o.sub x2 x1))

/-- The third point of a line of slope λ through (x1, y1) and a point with x-coordinate x2, reflected. -/
def thirdPoint (lam x1 y1 x2 : F) : Pt F :=
  let x3 := o.sub (o.sub (o.mul lam lam) x1) x2
  .aff x3 (o.sub (o.mul lam (o.sub x1 x3)) y1)

/-- `add(A, B)` (46_g1.md R360). -/
def ptAdd [DecidableEq F] : Pt F → Pt F → Pt F
  | .inf, b => b
  | .aff x1 y1, .inf => .aff x1 y1
  | .aff x1 y1, .aff x2 y2 =>
    if x1 = x2 then
      if o.add y1 y2 = o.zero then .inf
      else thirdPoint o (tangentSlope o x1 y1) x1 y1 x2
    else thirdPoint o (chordSlope o x1 y1 x2 y2) x1 y1 x2

/-- `neg(A)` (R360). -/
def ptNeg : Pt F → Pt F
  | .inf => .inf
  | .aff x y => .aff x (o.neg y)

/-- `mul(A, k)`, double-and-add over the bits of k (R360). -/
def ptMul [DecidableEq F] (a : Pt F) (k : Nat) : Pt F := sqMul (ptAdd o) .inf a k

end GroupLaw

/-! ## G1 (46_g1.md) -/

/-- `on_g1(X, Y)`: (Y² − X³ − 3) mod P = 0 (R189). -/
def onG1 (x y : Fp) : Bool := curveEq fpOps (Fp.ofNat 3) x y

def g1Add (a b : G1) : G1 := ptAdd fpOps a b
def g1Neg (a : G1) : G1 := ptNeg fpOps a
def g1Mul (a : G1) (k : Nat) : G1 := ptMul fpOps a k

/-- O, or on the curve. -/
def g1OnCurve : G1 → Bool
  | .inf => true
  | .aff x y => onG1 x y

/-! ## G2 (47_g2.md) -/

/-- b₂ = 3·inv(ξ) (41_load_store.md R189, 43_fp2.md R266). -/
def twistB : Fp2 := Fp2.xi.inv.scale (Fp.ofNat 3)

/-- `on_g2(X, Y)`: Y² − X³ − b₂ = 0 in Fp2 (R189). -/
def onG2 (x y : Fp2) : Bool := curveEq fp2Ops twistB x y

def g2Add (a b : G2) : G2 := ptAdd fp2Ops a b
def g2Neg (a : G2) : G2 := ptNeg fp2Ops a
def g2Mul (a : G2) (k : Nat) : G2 := ptMul fp2Ops a k

/-- O, or on the twist. -/
def g2OnCurve : G2 → Bool
  | .inf => true
  | .aff x y => onG2 x y

/-- π1(Q) = (conj(x)·ξ^((P−1)/3), conj(y)·ξ^((P−1)/2)), and O for O (47_g2.md R391). -/
def g2Frob1 : G2 → G2
  | .inf => .inf
  | .aff x y => .aff (x.conj.mul (Fp2.xi.pow ((P - 1) / 3))) (y.conj.mul (Fp2.xi.pow ((P - 1) / 2)))

/-- π2(Q) = (x·ξ^((P²−1)/3), y·ξ^((P²−1)/2)), and O for O (47_g2.md R391). -/
def g2Frob2 : G2 → G2
  | .inf => .inf
  | .aff x y => .aff (x.mul (Fp2.xi.pow ((P ^ 2 - 1) / 3))) (y.mul (Fp2.xi.pow ((P ^ 2 - 1) / 2)))

end Sys2Proof
end

