-- ==== Sys2Proof/Config.lean ====
section
/-! DEFINITION. What is fixed for every run of one CORE, and the one thing the spec leaves open: the power-on
contents of the two memories (00_scope.md R7, R9). -/

namespace Sys2Proof

/-- Words of instruction memory (00_scope.md R7, 10_state.md R39). -/
def Config.imemWords : Nat := 512

/-- Bytes of data memory (00_scope.md R7, 10_state.md R39). -/
def Config.dmemBytes : Nat := 16384

/-- Granules of 32 bytes of data memory (20_memory.md R81). -/
def Config.granules : Nat := 512

/-- The ID register's constant, ASCII "BN54" (10_state.md R43). -/
def Config.idWord : Word := 0x424E3534#32

/-- POWERON_MEM, the instruction memory's part: the word at an address after the power-on reset numbered by the
first argument. A FREE VALUE: the spec fixes no contents and states no law (00_scope.md R9). Log entry 1. -/
opaque Config.powerOnImem : Nat → Nat → Word

/-- POWERON_MEM, the data memory's part: the byte at an address after the power-on reset numbered by the first
argument. A FREE VALUE (00_scope.md R9). Log entry 1. -/
opaque Config.powerOnDmem : Nat → Nat → Byte

end Sys2Proof
end

