-- ==== Sys2Proof/Syntax.lean ====
section
/-! DEFINITION. The instructions of spec/opcode_table.json, one constructor per row (30_encoding.md R116), with the
operand fields their format uses (R115): rd, rs1, rs2 register indices, and the 9-bit immediate as `target`, `g`
(first granule) or `imm`. Stores put the memory operand first, MLINIT and MILLER the G2 operand (R120). -/

namespace Sys2Proof

inductive Instr where
  /-- HALT (40_control.md R150), format N. -/
  | halt
  /-- NOP (40_control.md R151), format N. -/
  | nop
  /-- JMP (40_control.md R152), format J. -/
  | jmp (target : Imm9)
  /-- BT (40_control.md R153), format J. -/
  | bt (target : Imm9)
  /-- BF (40_control.md R154), format J. -/
  | bf (target : Imm9)
  /-- MOV (40_control.md R155), format RDS. -/
  | mov (rd rs1 : RegIdx)
  /-- CLR (40_control.md R156), format RD. -/
  | clr (rd : RegIdx)
  /-- EQ (40_control.md R157), format SS. -/
  | eq (rs1 rs2 : RegIdx)
  /-- ZERO.FP (42_fp.md R212), format RD. -/
  | zeroFp (rd : RegIdx)
  /-- ZERO.FP2 (43_fp2.md R252), format RD. -/
  | zeroFp2 (rd : RegIdx)
  /-- ZERO.FP6 (44_fp6.md R292), format RD. -/
  | zeroFp6 (rd : RegIdx)
  /-- ZERO.FP12 (45_fp12.md R323), format RD. -/
  | zeroFp12 (rd : RegIdx)
  /-- ONE.FP (42_fp.md R213), format RD. -/
  | oneFp (rd : RegIdx)
  /-- ONE.FP2 (43_fp2.md R253), format RD. -/
  | oneFp2 (rd : RegIdx)
  /-- ONE.FP6 (44_fp6.md R293), format RD. -/
  | oneFp6 (rd : RegIdx)
  /-- ONE.FP12 (45_fp12.md R324), format RD. -/
  | oneFp12 (rd : RegIdx)
  /-- LD.FP (41_load_store.md R181), format LD. -/
  | ldFp (rd : RegIdx) (g : Imm9)
  /-- LD.FP2 (41_load_store.md R182), format LD. -/
  | ldFp2 (rd : RegIdx) (g : Imm9)
  /-- LD.FP6 (41_load_store.md R183), format LD. -/
  | ldFp6 (rd : RegIdx) (g : Imm9)
  /-- LD.FP12 (41_load_store.md R184), format LD. -/
  | ldFp12 (rd : RegIdx) (g : Imm9)
  /-- ST.FP (41_load_store.md R185), format ST. -/
  | stFp (g : Imm9) (rs1 : RegIdx)
  /-- ST.FP2 (41_load_store.md R186), format ST. -/
  | stFp2 (g : Imm9) (rs1 : RegIdx)
  /-- ST.FP6 (41_load_store.md R187), format ST. -/
  | stFp6 (g : Imm9) (rs1 : RegIdx)
  /-- ST.FP12 (41_load_store.md R188), format ST. -/
  | stFp12 (g : Imm9) (rs1 : RegIdx)
  /-- LDG1 (41_load_store.md R190), format LD. -/
  | ldg1 (rd : RegIdx) (g : Imm9)
  /-- LDG2 (41_load_store.md R191), format LD. -/
  | ldg2 (rd : RegIdx) (g : Imm9)
  /-- STG1 (41_load_store.md R192), format ST. -/
  | stg1 (g : Imm9) (rs1 : RegIdx)
  /-- STG2 (41_load_store.md R193), format ST. -/
  | stg2 (g : Imm9) (rs1 : RegIdx)
  /-- LDSC (41_load_store.md R194), format LD. -/
  | ldsc (rd : RegIdx) (g : Imm9)
  /-- STSC (41_load_store.md R195), format ST. -/
  | stsc (g : Imm9) (rs1 : RegIdx)
  /-- MLINIT (48_pairing.md R427), format SS. -/
  | mlinit (rs1 rs2 : RegIdx)
  /-- MLSTEP (48_pairing.md R428), format N. -/
  | mlstep
  /-- MILLER (48_pairing.md R429), format RDSS. -/
  | miller (rd rs1 rs2 : RegIdx)
  /-- MLRDF (48_pairing.md R430), format RD. -/
  | mlrdf (rd : RegIdx)
  /-- MLRDT (48_pairing.md R432), format RD. -/
  | mlrdt (rd : RegIdx)
  /-- MLRDL (48_pairing.md R433), format RD. -/
  | mlrdl (rd : RegIdx)
  /-- MLDONE (48_pairing.md R431), format N. -/
  | mldone
  /-- FEXP (49_final_exp.md R461), format RDS. -/
  | fexp (rd rs1 : RegIdx)
  /-- ADD.FP (42_fp.md R214), format RDSS. -/
  | addFp (rd rs1 rs2 : RegIdx)
  /-- ADD.FP2 (43_fp2.md R254), format RDSS. -/
  | addFp2 (rd rs1 rs2 : RegIdx)
  /-- ADD.FP6 (44_fp6.md R294), format RDSS. -/
  | addFp6 (rd rs1 rs2 : RegIdx)
  /-- ADD.FP12 (45_fp12.md R325), format RDSS. -/
  | addFp12 (rd rs1 rs2 : RegIdx)
  /-- SUB.FP (42_fp.md R215), format RDSS. -/
  | subFp (rd rs1 rs2 : RegIdx)
  /-- SUB.FP2 (43_fp2.md R255), format RDSS. -/
  | subFp2 (rd rs1 rs2 : RegIdx)
  /-- SUB.FP6 (44_fp6.md R295), format RDSS. -/
  | subFp6 (rd rs1 rs2 : RegIdx)
  /-- SUB.FP12 (45_fp12.md R326), format RDSS. -/
  | subFp12 (rd rs1 rs2 : RegIdx)
  /-- NEG.FP (42_fp.md R216), format RDS. -/
  | negFp (rd rs1 : RegIdx)
  /-- NEG.FP2 (43_fp2.md R256), format RDS. -/
  | negFp2 (rd rs1 : RegIdx)
  /-- NEG.FP6 (44_fp6.md R298), format RDS. -/
  | negFp6 (rd rs1 : RegIdx)
  /-- NEG.FP12 (45_fp12.md R328), format RDS. -/
  | negFp12 (rd rs1 : RegIdx)
  /-- MUL.FP (42_fp.md R217), format RDSS. -/
  | mulFp (rd rs1 rs2 : RegIdx)
  /-- MUL.FP2 (43_fp2.md R257), format RDSS. -/
  | mulFp2 (rd rs1 rs2 : RegIdx)
  /-- MUL.FP6 (44_fp6.md R296), format RDSS. -/
  | mulFp6 (rd rs1 rs2 : RegIdx)
  /-- MUL.FP12 (45_fp12.md R329), format RDSS. -/
  | mulFp12 (rd rs1 rs2 : RegIdx)
  /-- SQR.FP (42_fp.md R218), format RDS. -/
  | sqrFp (rd rs1 : RegIdx)
  /-- SQR.FP2 (43_fp2.md R259), format RDS. -/
  | sqrFp2 (rd rs1 : RegIdx)
  /-- SQR.FP6 (44_fp6.md R299), format RDS. -/
  | sqrFp6 (rd rs1 : RegIdx)
  /-- SQR.FP12 (45_fp12.md R330), format RDS. -/
  | sqrFp12 (rd rs1 : RegIdx)
  /-- INV.FP (42_fp.md R219), format RDS. -/
  | invFp (rd rs1 : RegIdx)
  /-- INV.FP2 (43_fp2.md R258), format RDS. -/
  | invFp2 (rd rs1 : RegIdx)
  /-- INV.FP6 (44_fp6.md R297), format RDS. -/
  | invFp6 (rd rs1 : RegIdx)
  /-- INV.FP12 (45_fp12.md R327), format RDS. -/
  | invFp12 (rd rs1 : RegIdx)
  /-- POW.FP (42_fp.md R220), format RDSS. -/
  | powFp (rd rs1 rs2 : RegIdx)
  /-- POW.FP2 (43_fp2.md R260), format RDSS. -/
  | powFp2 (rd rs1 rs2 : RegIdx)
  /-- POW.FP6 (44_fp6.md R300), format RDSS. -/
  | powFp6 (rd rs1 rs2 : RegIdx)
  /-- POW.FP12 (45_fp12.md R331), format RDSS. -/
  | powFp12 (rd rs1 rs2 : RegIdx)
  /-- CONJ.FP2 (43_fp2.md R261), format RDS. -/
  | conjFp2 (rd rs1 : RegIdx)
  /-- CONJ.FP12 (45_fp12.md R332), format RDS. -/
  | conjFp12 (rd rs1 : RegIdx)
  /-- FROB.FP (42_fp.md R221), format RDSI. -/
  | frobFp (rd rs1 : RegIdx) (imm : Imm9)
  /-- FROB.FP2 (43_fp2.md R263), format RDSI. -/
  | frobFp2 (rd rs1 : RegIdx) (imm : Imm9)
  /-- FROB.FP6 (44_fp6.md R301), format RDSI. -/
  | frobFp6 (rd rs1 : RegIdx) (imm : Imm9)
  /-- FROB.FP12 (45_fp12.md R333), format RDSI. -/
  | frobFp12 (rd rs1 : RegIdx) (imm : Imm9)
  /-- MULXI (43_fp2.md R262), format RDS. -/
  | mulxi (rd rs1 : RegIdx)
  /-- ISZERO.FP (42_fp.md R222), format S. -/
  | iszeroFp (rs1 : RegIdx)
  /-- ISZERO.FP2 (43_fp2.md R264), format S. -/
  | iszeroFp2 (rs1 : RegIdx)
  /-- ISZERO.FP6 (44_fp6.md R302), format S. -/
  | iszeroFp6 (rs1 : RegIdx)
  /-- ISZERO.FP12 (45_fp12.md R334), format S. -/
  | iszeroFp12 (rs1 : RegIdx)
  /-- ISONE.FP (42_fp.md R223), format S. -/
  | isoneFp (rs1 : RegIdx)
  /-- ISONE.FP2 (43_fp2.md R265), format S. -/
  | isoneFp2 (rs1 : RegIdx)
  /-- ISONE.FP6 (44_fp6.md R303), format S. -/
  | isoneFp6 (rs1 : RegIdx)
  /-- ISONE.FP12 (45_fp12.md R335), format S. -/
  | isoneFp12 (rs1 : RegIdx)
  /-- EMB.FP2 (43_fp2.md R267), format RDS. -/
  | embFp2 (rd rs1 : RegIdx)
  /-- EMB.FP6 (44_fp6.md R304), format RDS. -/
  | embFp6 (rd rs1 : RegIdx)
  /-- EMB.FP12 (45_fp12.md R337), format RDS. -/
  | embFp12 (rd rs1 : RegIdx)
  /-- MKFP2 (43_fp2.md R268), format RDSS. -/
  | mkfp2 (rd rs1 rs2 : RegIdx)
  /-- COEF.FP (42_fp.md R224), format RDSI. -/
  | coefFp (rd rs1 : RegIdx) (imm : Imm9)
  /-- COEF.FP2 (43_fp2.md R269), format RDSI. -/
  | coefFp2 (rd rs1 : RegIdx) (imm : Imm9)
  /-- COEF.FP6 (44_fp6.md R305), format RDSI. -/
  | coefFp6 (rd rs1 : RegIdx) (imm : Imm9)
  /-- COEF.FP12 (45_fp12.md R338), format RDSI. -/
  | coefFp12 (rd rs1 : RegIdx) (imm : Imm9)
  /-- PADD.G1 (46_g1.md R363), format RDSS. -/
  | paddG1 (rd rs1 rs2 : RegIdx)
  /-- PADD.G2 (47_g2.md R394), format RDSS. -/
  | paddG2 (rd rs1 rs2 : RegIdx)
  /-- PDBL.G1 (46_g1.md R364), format RDS. -/
  | pdblG1 (rd rs1 : RegIdx)
  /-- PDBL.G2 (47_g2.md R395), format RDS. -/
  | pdblG2 (rd rs1 : RegIdx)
  /-- PNEG.G1 (46_g1.md R365), format RDS. -/
  | pnegG1 (rd rs1 : RegIdx)
  /-- PNEG.G2 (47_g2.md R396), format RDS. -/
  | pnegG2 (rd rs1 : RegIdx)
  /-- PMUL.G1 (46_g1.md R367), format RDSS. -/
  | pmulG1 (rd rs1 rs2 : RegIdx)
  /-- PMUL.G2 (47_g2.md R398), format RDSS. -/
  | pmulG2 (rd rs1 rs2 : RegIdx)
  /-- PTOJ.G1 (46_g1.md R368), format RDS. -/
  | ptojG1 (rd rs1 : RegIdx)
  /-- PTOJ.G2 (47_g2.md R399), format RDS. -/
  | ptojG2 (rd rs1 : RegIdx)
  /-- PTOA.G1 (46_g1.md R369), format RDS. -/
  | ptoaG1 (rd rs1 : RegIdx)
  /-- PTOA.G2 (47_g2.md R400), format RDS. -/
  | ptoaG2 (rd rs1 : RegIdx)
  /-- ISINF.G1 (46_g1.md R366), format S. -/
  | isinfG1 (rs1 : RegIdx)
  /-- ISINF.G2 (47_g2.md R397), format S. -/
  | isinfG2 (rs1 : RegIdx)
  /-- PINF.G1 (46_g1.md R370), format RD. -/
  | pinfG1 (rd : RegIdx)
  /-- PINF.G2 (47_g2.md R401), format RD. -/
  | pinfG2 (rd : RegIdx)
  deriving DecidableEq, Repr

end Sys2Proof
end

