-- ==== Sys2Proof/Machine/State.lean ====
section
/-! DEFINITION. The state of one CORE instance, as plain data (10_state.md R30), the reasons a step can stop, and the
state after a power-on reset (70_reset_and_hazards.md R532). -/

namespace Sys2Proof.Machine

/-! ## Value registers (10_state.md R31) -/

/-- The ten tags of a value register. -/
inductive Tag where
  | empty | fp | fp2 | fp6 | fp12 | g1 | g2 | g1j | g2j | sc
  deriving DecidableEq, Repr

/-- A value register's contents: a tag and a value in the tag's domain. A G1J or G2J register holds the point itself
(R34); which Jacobian triple stands for it is not observable (log entry 11). -/
inductive RegVal where
  | empty
  | fp (a : Fp)
  | fp2 (a : Fp2)
  | fp6 (a : Fp6)
  | fp12 (a : Fp12)
  | g1 (p : G1)
  | g2 (p : G2)
  | g1j (p : G1)
  | g2j (p : G2)
  | sc (k : Scalar)
  deriving DecidableEq, Repr

/-! ## Run state, Miller unit, exceptions -/

/-- STATE (10_state.md R44). -/
inductive RunState where
  | idle | busy | halted | fault
  deriving DecidableEq, Repr

/-- ML_ST (10_state.md R40). -/
inductive MlState where
  | idle | loop | frob1 | frob2 | done
  deriving DecidableEq, Repr

/-- The Miller unit (10_state.md R40). -/
structure Miller where
  /-- ML_ST -/
  st : MlState
  /-- ML_I, the bit position the next LOOP step processes -/
  i : BitVec 6
  /-- ML_F, the accumulator f -/
  f : Fp12
  /-- ML_T, the running point T -/
  t : G2
  /-- ML_Q -/
  q : G2
  /-- ML_P -/
  p : G1
  /-- ML_L, the most recent line value -/
  l : Fp12
  deriving DecidableEq, Repr

/-- An exception with what its info value is made of (60_exceptions.md R480). -/
inductive Exc where
  | illegalInsn
  | fetchBounds (pc : BitVec 10)
  | emptyRead (r : RegIdx)
  | typeMismatch (r : RegIdx)
  | memBounds (g : Nat)
  | decodeError (g : Nat)
  | invalidPoint (g : Nat)
  | divByZero (r : RegIdx)
  | mlState (st : MlState)
  | mlDegenerate (st : MlState)
  deriving DecidableEq, Repr

/-! ## Memories -/

/-- A memory of cells: what has been written since power-on, as (address, content) pairs in rising order of address.
An address not listed holds no written content; it reads as POWERON_MEM (log entries 1 and 2). -/
abbrev Memory (α : Type) := List (Nat × α)

/-- DMEM: cells of bytes (10_state.md R39). -/
abbrev Dmem := List Host.Cell

/-- IMEM: cells of 32-bit words, which have no byte order of their own (20_memory.md R82, R84). -/
abbrev Imem := Memory Word

/-! ## The host's side (60_exceptions.md R500, R501) -/

/-- What the host's agent does when its turn comes (log entry 4). -/
inductive HostAct where
  /-- nothing: the engine takes the step -/
  | pass
  /-- read the MMIO word at a byte offset -/
  | read (off : BitVec 15)
  /-- write the MMIO word at a byte offset -/
  | write (off : BitVec 15) (v : Word)
  /-- assert the power-on reset input (70_reset_and_hazards.md R530) -/
  | powerOn
  deriving DecidableEq, Repr

/-- What an MMIO offset names (60_exceptions.md R500). `imem k` and `dmem k` are the k-th words of their windows. -/
inductive Mmio where
  | id | ctrl | status | cause | fpc | finsn | pc | finfo
  | imem (k : Nat)
  | dmem (k : Nat)
  | reserved
  deriving DecidableEq, Repr

/-! ## The state -/

/-- The architectural state (10_state.md R30). The last three fields are the model's own (log entries 1 and 4). -/
structure State where
  /-- x0..x31 (R31) -/
  regs : Vector RegVal 32
  /-- FLAG (R37) -/
  flag : Bool
  /-- PC, a word address (R38) -/
  pc : BitVec 10
  /-- IMEM (R39) -/
  imem : Imem
  /-- DMEM (R39) -/
  dmem : Dmem
  /-- the Miller unit (R40) -/
  ml : Miller
  /-- STATE (R44) -/
  run : RunState
  /-- CTRL.IRQ_EN (R45) -/
  irqEn : Bool
  /-- STATUS.IRQ_PEND (R46) -/
  irqPend : Bool
  /-- STATUS.HOSTERR (R46) -/
  hostErr : Bool
  /-- CAUSE.CODE (R47) -/
  cause : BitVec 5
  /-- FPC (R48) -/
  fpc : BitVec 10
  /-- FINSN (R49) -/
  finsn : Word
  /-- FINFO (R50) -/
  finfo : Word
  /-- the model's own: what the host does next, oldest first -/
  hostQ : List HostAct
  /-- the model's own: the word the last host read returned -/
  rdata : Word
  /-- the model's own: how many power-on resets came after the first; it picks the free POWERON_MEM -/
  epoch : Nat
  deriving DecidableEq, Repr

/-- Why a step could fault. No constructor: every exception the spec names is taken as a NEXT state by the fault-stop
mechanism (60_exceptions.md R492), and the spec names no access that has no outcome, so no step of this machine stops
without a next state (log entry 6). -/
inductive Fault
  deriving DecidableEq, Repr

/-- Why a step could be refused. -/
inductive Refusal where
  /-- Raised only by an arm of `exec` whose instruction has no meaning yet: none is left. Safe: it says nothing. -/
  | notModelled (mnemonic : String)
  deriving DecidableEq, Repr

/-! ## Reset (70_reset_and_hazards.md R532) -/

/-- The Miller unit after either reset: ML_ST = IDLE, ML_I = 0. The other fields are unspecified and never observable
while IDLE (R532); the values here are a DESIGN CHOICE, log entry 3. -/
def Miller.reset : Miller where
  st := .idle
  i := 0
  f := ⟨⟨⟨Fp.ofNat 0, Fp.ofNat 0⟩, ⟨Fp.ofNat 0, Fp.ofNat 0⟩, ⟨Fp.ofNat 0, Fp.ofNat 0⟩⟩,
        ⟨⟨Fp.ofNat 0, Fp.ofNat 0⟩, ⟨Fp.ofNat 0, Fp.ofNat 0⟩, ⟨Fp.ofNat 0, Fp.ofNat 0⟩⟩⟩
  t := .inf
  q := .inf
  p := .inf
  l := ⟨⟨⟨Fp.ofNat 0, Fp.ofNat 0⟩, ⟨Fp.ofNat 0, Fp.ofNat 0⟩, ⟨Fp.ofNat 0, Fp.ofNat 0⟩⟩,
        ⟨⟨Fp.ofNat 0, Fp.ofNat 0⟩, ⟨Fp.ofNat 0, Fp.ofNat 0⟩, ⟨Fp.ofNat 0, Fp.ofNat 0⟩⟩⟩

/-- The machine right after a power-on reset (R530, R532). Both memories list nothing: every word of IMEM and every
byte of DMEM reads as POWERON_MEM. -/
def State.reset : State where
  regs := Vector.replicate 32 .empty
  flag := false
  pc := 0
  imem := []
  dmem := []
  ml := Miller.reset
  run := .idle
  irqEn := false
  irqPend := false
  hostErr := false
  cause := 0
  fpc := 0
  finsn := 0
  finfo := 0
  hostQ := []
  rdata := 0
  epoch := 0

end Sys2Proof.Machine
end

