-- ==== Sys2Proof/Machine/Ops.lean ====
section
/-! DEFINITION. The named operations over registers and memories, the taking of an exception (60_exceptions.md R492)
and the ways an instruction commits (40_control.md R159). -/

namespace Sys2Proof.Machine

/-- What a step answers. -/
abbrev Result := Host.Outcome State Fault Refusal

/-! ## Memories -/

/-- The content written at an address since power-on, if any. -/
def Memory.get? {α : Type} : Memory α → Nat → Option α
  | [], _ => none
  | (k, v) :: m, a => if a = k then some v else Memory.get? m a

/-- Write one cell, keeping the addresses in rising order. -/
def Memory.set {α : Type} : Memory α → Nat → α → Memory α
  | [], a, v => [(a, v)]
  | (k, w) :: m, a, v =>
    if a < k then (a, v) :: (k, w) :: m
    else if a = k then (a, v) :: m
    else (k, w) :: Memory.set m a v

/-- Every address is at least `lo`, below `size`, and the addresses rise strictly. -/
def Memory.wfFrom {α : Type} (size : Nat) : Nat → Memory α → Bool
  | _, [] => true
  | lo, (k, _) :: m => decide (lo ≤ k) && decide (k < size) && Memory.wfFrom size (k + 1) m

/-- The canonical form of a memory of `size` cells: strictly rising addresses, each below `size`. An unlisted cell is
one that holds no written content, and a write never makes one (log entry 2). -/
def Memory.wf {α : Type} (size : Nat) (m : Memory α) : Bool := Memory.wfFrom size 0 m

/-- Write a list of cells at consecutive addresses. -/
def Memory.setMany {α : Type} : Memory α → Nat → List α → Memory α
  | m, _, [] => m
  | m, a, v :: vs => Memory.setMany (Memory.set m a v) (a + 1) vs

/-! ## Byte order (20_memory.md R82): 32-byte words, big-endian -/

/-- The `n` low bytes of `v`, most significant first. -/
def beBytes : Nat → Nat → List Byte
  | 0, _ => []
  | n + 1, v => BitVec.ofNat 8 (v / 256 ^ n) :: beBytes n v

/-- The unsigned value of a list of bytes, most significant first. -/
def beValue (bs : List Byte) : Nat := bs.foldl (fun acc b => acc * 256 + b.toNat) 0

/-- DMEM[a]: the byte last written, or the POWERON_MEM byte (20_memory.md R89). -/
def readByte (s : State) (a : Nat) : Byte :=
  match Memory.get? s.dmem a with
  | some b => b
  | none => Config.powerOnDmem s.epoch a

/-- DMEM[a .. a+n−1]. -/
def readBytes (s : State) (a n : Nat) : List Byte := (List.range n).map fun i => readByte s (a + i)

/-- `Word(g)`, the 256-bit big-endian word in granule g (00_scope.md R12). -/
def word (s : State) (g : Nat) : Nat := beValue (readBytes s (32 * g) 32)

/-- `SetWord(g, v)` on the memory (00_scope.md R12). -/
def setWord (m : Dmem) (g v : Nat) : Dmem := Memory.setMany m (32 * g) (beBytes 32 v)

/-- `SetWord` at consecutive granules, from g on. -/
def setWords : Dmem → Nat → List Nat → Dmem
  | m, _, [] => m
  | m, g, v :: vs => setWords (setWord m g v) (g + 1) vs

/-- IMEM[k]: the word last written, or the POWERON_MEM word. -/
def imemWord (s : State) (k : Nat) : Word :=
  match Memory.get? s.imem k with
  | some w => w
  | none => Config.powerOnImem s.epoch k

/-! ## Registers (00_scope.md R11) -/

/-- x[r]. -/
def State.reg (s : State) (r : RegIdx) : RegVal := s.regs[r.toNat]'r.isLt

/-- x[r] <- v. -/
def State.setReg (s : State) (r : RegIdx) (v : RegVal) : State :=
  { s with regs := s.regs.set r.toNat v r.isLt }

/-- FLAG <- b. -/
def State.setFlag (s : State) (b : Bool) : State := { s with flag := b }

/-- DMEM <- m. -/
def State.setDmem (s : State) (m : Dmem) : State := { s with dmem := m }

/-- The Miller unit <- u. -/
def State.setMl (s : State) (u : Miller) : State := { s with ml := u }

/-- pc <- target. -/
def State.goto (s : State) (target : BitVec 10) : State := { s with pc := target }

/-- pc <- pc + 1 (10_state.md R38). -/
def State.advance (s : State) : State := { s with pc := s.pc + 1 }

/-! ## Exceptions -/

/-- ML_ST's code (10_state.md R40). -/
def MlState.code : MlState → Nat
  | .idle => 0
  | .loop => 1
  | .frob1 => 2
  | .frob2 => 3
  | .done => 4

/-- The cause code (60_exceptions.md R480). -/
def Exc.code : Exc → BitVec 5
  | .illegalInsn => 1
  | .fetchBounds _ => 2
  | .emptyRead _ => 3
  | .typeMismatch _ => 4
  | .memBounds _ => 5
  | .decodeError _ => 6
  | .invalidPoint _ => 7
  | .divByZero _ => 8
  | .mlState _ => 9
  | .mlDegenerate _ => 10

/-- The info value, zero-extended to 32 bits (60_exceptions.md R480). -/
def Exc.info : Exc → Word
  | .illegalInsn => 0
  | .fetchBounds pc => pc.setWidth 32
  | .emptyRead r => r.setWidth 32
  | .typeMismatch r => r.setWidth 32
  | .memBounds g => BitVec.ofNat 32 g
  | .decodeError g => BitVec.ofNat 32 g
  | .invalidPoint g => BitVec.ofNat 32 g
  | .divByZero r => r.setWidth 32
  | .mlState st => BitVec.ofNat 32 st.code
  | .mlDegenerate st => BitVec.ofNat 32 st.code

/-- The word a trap records: the one fetched at PC, and 0 where no word could be fetched (R492, 10_state.md R49). The
engine never writes IMEM and PC names the executing instruction, so IMEM[PC] still is the fetched word (log 7). -/
def fetchedWord (s : State) : Word :=
  if s.pc.toNat < Config.imemWords then imemWord s s.pc.toNat else 0

/-- Fault-stop, the taking of an exception (60_exceptions.md R492). PC is unchanged. -/
def trap (e : Exc) (s : State) : State :=
  { s with
    run := .fault
    cause := e.code
    fpc := s.pc
    finsn := fetchedWord s
    finfo := e.info
    irqPend := true }

/-! ## Commit (40_control.md R159): an instruction raises, or makes all its writes and sets PC -/

/-- Raise, or write x[rd] and go on at PC + 1. -/
def commitReg (rd : RegIdx) (r : Except Exc RegVal) (s : State) : Result :=
  .next (match r with
    | .ok v => (s.setReg rd v).advance
    | .error e => trap e s)

/-- Raise, or write FLAG and go on at PC + 1. -/
def commitFlag (r : Except Exc Bool) (s : State) : Result :=
  .next (match r with
    | .ok b => (s.setFlag b).advance
    | .error e => trap e s)

/-- Raise, or write DMEM and go on at PC + 1. -/
def commitDmem (r : Except Exc Dmem) (s : State) : Result :=
  .next (match r with
    | .ok m => (s.setDmem m).advance
    | .error e => trap e s)

/-- Raise, or write the Miller unit and go on at PC + 1. -/
def commitMl (r : Except Exc Miller) (s : State) : Result :=
  .next (match r with
    | .ok u => (s.setMl u).advance
    | .error e => trap e s)

end Sys2Proof.Machine
end

