-- ==== Sys2Proof/Machine/Operands.lean ====
section
/-! DEFINITION. The operand forms: which tags an instruction accepts and the value it takes from the register, the
reading of source operands with its checks (40_control.md R158), the memory operand with its checks (20_memory.md
R81, 41_load_store.md R180) and the layouts of values in memory (20_memory.md R95, R96). -/

namespace Sys2Proof.Machine

/-! ## Tags -/

/-- tag(x[i]) (10_state.md R31). -/
def RegVal.tag : RegVal → Tag
  | .empty => .empty
  | .fp _ => .fp
  | .fp2 _ => .fp2
  | .fp6 _ => .fp6
  | .fp12 _ => .fp12
  | .g1 _ => .g1
  | .g2 _ => .g2
  | .g1j _ => .g1j
  | .g2j _ => .g2j
  | .sc _ => .sc

/-- Affine or Jacobian: the representation a point's tag records (46_g1.md R362). -/
inductive Form where
  | aff | jac
  deriving DecidableEq, Repr

/-- The tag rule of PADD: affine if both operands are affine, Jacobian otherwise (46_g1.md R362). -/
def Form.join : Form → Form → Form
  | .aff, .aff => .aff
  | .aff, .jac => .jac
  | .jac, .aff => .jac
  | .jac, .jac => .jac

/-- A G1 point under the tag of its form. -/
def ofG1 : Form → G1 → RegVal
  | .aff, p => .g1 p
  | .jac, p => .g1j p

/-- A G2 point under the tag of its form. -/
def ofG2 : Form → G2 → RegVal
  | .aff, p => .g2 p
  | .jac, p => .g2j p

/-! ## Accepted sets: the operand's value, or nothing where the tag is not accepted -/

/-- The accepted set {FP}. -/
def asFp : RegVal → Option Fp
  | .fp a => some a
  | _ => none

/-- {FP2} -/
def asFp2 : RegVal → Option Fp2
  | .fp2 a => some a
  | _ => none

/-- {FP6} -/
def asFp6 : RegVal → Option Fp6
  | .fp6 a => some a
  | _ => none

/-- {FP12} -/
def asFp12 : RegVal → Option Fp12
  | .fp12 a => some a
  | _ => none

/-- {SC} -/
def asSc : RegVal → Option Scalar
  | .sc k => some k
  | _ => none

/-- {G1} -/
def asG1Aff : RegVal → Option G1
  | .g1 p => some p
  | _ => none

/-- {G1J} -/
def asG1Jac : RegVal → Option G1
  | .g1j p => some p
  | _ => none

/-- {G1, G1J} -/
def asG1 : RegVal → Option (Form × G1)
  | .g1 p => some (.aff, p)
  | .g1j p => some (.jac, p)
  | _ => none

/-- {G2} -/
def asG2Aff : RegVal → Option G2
  | .g2 p => some p
  | _ => none

/-- {G2J} -/
def asG2Jac : RegVal → Option G2
  | .g2j p => some p
  | _ => none

/-- {G2, G2J} -/
def asG2 : RegVal → Option (Form × G2)
  | .g2 p => some (.aff, p)
  | .g2j p => some (.jac, p)
  | _ => none

/-- {FP, FP2}, lifted to Fp2 (44_fp6.md R304). -/
def asUpToFp2 : RegVal → Option Fp2
  | .fp a => some (Fp2.ofFp a)
  | .fp2 a => some a
  | _ => none

/-- {FP, FP2, FP6}, lifted to Fp6 (45_fp12.md R337). -/
def asUpToFp6 : RegVal → Option Fp6
  | .fp a => some (Fp6.ofFp2 (Fp2.ofFp a))
  | .fp2 a => some (Fp6.ofFp2 a)
  | .fp6 a => some a
  | _ => none

/-! ## Reading source operands (40_control.md R158) -/

/-- `src(r, S)`. -/
def src {α : Type} (s : State) (r : RegIdx) (want : RegVal → Option α) : Except Exc α :=
  if s.reg r = .empty then .error (.emptyRead r)
  else match want (s.reg r) with
    | some a => .ok a
    | none => .error (.typeMismatch r)

/-- `srcs((r1, S1), (r2, S2))`: every EMPTY check before any tag check. -/
def srcs {α β : Type} (s : State) (r1 : RegIdx) (want1 : RegVal → Option α) (r2 : RegIdx)
    (want2 : RegVal → Option β) : Except Exc (α × β) :=
  if s.reg r1 = .empty then .error (.emptyRead r1)
  else if s.reg r2 = .empty then .error (.emptyRead r2)
  else match want1 (s.reg r1) with
    | none => .error (.typeMismatch r1)
    | some a => match want2 (s.reg r2) with
      | none => .error (.typeMismatch r2)
      | some b => .ok (a, b)

/-! ## Memory operands -/

/-- `require g + n ≤ 512 else MEM_BOUNDS(g)` (20_memory.md R81). -/
def checkBounds (g n : Nat) : Except Exc Unit :=
  if g + n ≤ Config.granules then .ok () else .error (.memBounds g)

/-- `fp_word(h)`: the word of granule h, which must be reduced (41_load_store.md R180). -/
def fpWord (s : State) (h : Nat) : Except Exc Fp :=
  if hlt : word s h < P then .ok ⟨word s h, hlt⟩ else .error (.decodeError h)

/-- The Fp2 value whose coefficients are the words from h on, in increasing granule order (20_memory.md R96). -/
def fp2Word (s : State) (h : Nat) : Except Exc Fp2 := do
  let c0 ← fpWord s h
  let c1 ← fpWord s (h + 1)
  return ⟨c0, c1⟩

/-- The Fp6 value whose coefficients are the six words from h on. -/
def fp6Word (s : State) (h : Nat) : Except Exc Fp6 := do
  let c0 ← fp2Word s h
  let c1 ← fp2Word s (h + 2)
  let c2 ← fp2Word s (h + 4)
  return ⟨c0, c1, c2⟩

/-- The Fp12 value whose coefficients are the twelve words from h on. -/
def fp12Word (s : State) (h : Nat) : Except Exc Fp12 := do
  let c0 ← fp6Word s h
  let c1 ← fp6Word s (h + 6)
  return ⟨c0, c1⟩

/-- The G1 point in wire format at granule g: x ‖ y, all zero for O, else on the curve (41_load_store.md R190). -/
def g1Word (s : State) (g : Nat) : Except Exc G1 := do
  let x ← fpWord s g
  let y ← fpWord s (g + 1)
  if x = Fp.zero ∧ y = Fp.zero then return .inf
  else if onG1 x y then return .aff x y
  else throw (.invalidPoint g)

/-- The G2 point in wire format at granule g: x_im ‖ x_re ‖ y_im ‖ y_re, all zero for O, else on the twist
(41_load_store.md R191). -/
def g2Word (s : State) (g : Nat) : Except Exc G2 := do
  let xi ← fpWord s g
  let xr ← fpWord s (g + 1)
  let yi ← fpWord s (g + 2)
  let yr ← fpWord s (g + 3)
  if xi = Fp.zero ∧ xr = Fp.zero ∧ yi = Fp.zero ∧ yr = Fp.zero then return .inf
  else if onG2 ⟨xr, xi⟩ ⟨yr, yi⟩ then return .aff ⟨xr, xi⟩ ⟨yr, yi⟩
  else throw (.invalidPoint g)

/-- The two wire words of a G1 point (20_memory.md R95). -/
def g1Wire : G1 → List Nat
  | .inf => [0, 0]
  | .aff x y => [x.val, y.val]

/-- The four wire words of a G2 point, imaginary coefficients first (20_memory.md R95). -/
def g2Wire : G2 → List Nat
  | .inf => [0, 0, 0, 0]
  | .aff x y => [x.c1.val, x.c0.val, y.c1.val, y.c0.val]

/-- A load of n granules at g: the bounds check, then the layout's own checks (41_load_store.md §2, §4). -/
def loadFrom {α : Type} (g n : Nat) (read : Nat → Except Exc α) : Except Exc α := do
  checkBounds g n
  read g

/-- A store of words at g: the operand first, then the bounds check, before any byte is written (R487). -/
def storeTo {α : Type} (s : State) (g : Nat) (rs1 : RegIdx) (want : RegVal → Option α) (n : Nat)
    (words : α → List Nat) : Except Exc Dmem := do
  let a ← src s rs1 want
  checkBounds g n
  return setWords s.dmem g (words a)

end Sys2Proof.Machine
end

