-- ==== Sys2Proof/Machine/Flags.lean ====
section
/-! DEFINITION. Every computation of FLAG: the equality of two registers of one kind (40_control.md R157) and the
tests for zero, one, infinity and DONE (10_state.md R37). -/

namespace Sys2Proof.Machine

/-- The kinds EQ compares within (40_control.md R157). -/
inductive Kind where
  | empty | fp | fp2 | fp6 | fp12 | sc | g1 | g2
  deriving DecidableEq, Repr

def Tag.kind : Tag → Kind
  | .empty => .empty
  | .fp => .fp
  | .fp2 => .fp2
  | .fp6 => .fp6
  | .fp12 => .fp12
  | .sc => .sc
  | .g1 => .g1
  | .g1j => .g1
  | .g2 => .g2
  | .g2j => .g2

/-- val(a) = val(b) for two registers of one kind: field values by coefficients, scalars as integers, points as
points whatever their form (R157). -/
def sameValue : RegVal → RegVal → Bool
  | .fp a, .fp b => decide (a = b)
  | .fp2 a, .fp2 b => decide (a = b)
  | .fp6 a, .fp6 b => decide (a = b)
  | .fp12 a, .fp12 b => decide (a = b)
  | .sc a, .sc b => decide (a = b)
  | .g1 a, .g1 b => decide (a = b)
  | .g1 a, .g1j b => decide (a = b)
  | .g1j a, .g1 b => decide (a = b)
  | .g1j a, .g1j b => decide (a = b)
  | .g2 a, .g2 b => decide (a = b)
  | .g2 a, .g2j b => decide (a = b)
  | .g2j a, .g2 b => decide (a = b)
  | .g2j a, .g2j b => decide (a = b)
  | _, _ => false

/-- EQ's checks and its FLAG (R157). -/
def eqFlag (s : State) (rs1 rs2 : RegIdx) : Except Exc Bool :=
  if s.reg rs1 = .empty then .error (.emptyRead rs1)
  else if s.reg rs2 = .empty then .error (.emptyRead rs2)
  else if (s.reg rs1).tag.kind = (s.reg rs2).tag.kind then .ok (sameValue (s.reg rs1) (s.reg rs2))
  else .error (.typeMismatch rs2)

/-- FLAG of ISZERO and ISONE: the operand equals the level's constant. -/
def isConst {T : Type} [DecidableEq T] (c a : T) : Bool := decide (a = c)

/-- FLAG of ISINF: the point is O (46_g1.md R366, 47_g2.md R397). -/
def isInf {F : Type} : Pt F → Bool
  | .inf => true
  | .aff _ _ => false

/-- FLAG of MLDONE (48_pairing.md R431). -/
def mlIsDone (u : Miller) : Bool := decide (u.st = .done)

end Sys2Proof.Machine
end

