-- ==== Sys2Proof/Machine/Control.lean ====
section
/-! DEFINITION. Stop, control transfer, register moves and comparison (40_control.md). -/

namespace Sys2Proof.Machine

/-- HALT (R150): stop the engine normally. -/
def execHalt (s : State) : Result := .next { s.advance with run := .halted, irqPend := true }

/-- NOP (R151). -/
def execNop (s : State) : Result := .next s.advance

/-- JMP target (R152). -/
def execJmp (target : Imm9) (s : State) : Result := .next (s.goto (target.setWidth 10))

/-- BT target (R153): branch if FLAG is 1. -/
def execBt (target : Imm9) (s : State) : Result :=
  if s.flag then .next (s.goto (target.setWidth 10)) else .next s.advance

/-- BF target (R154): branch if FLAG is 0. -/
def execBf (target : Imm9) (s : State) : Result :=
  if s.flag then .next s.advance else .next (s.goto (target.setWidth 10))

/-- MOV rd, rs1 (R155): copy tag and value; any tag but EMPTY. -/
def execMov (rd rs1 : RegIdx) (s : State) : Result := commitReg rd (src s rs1 some) s

/-- CLR rd (R156). -/
def execClr (rd : RegIdx) (s : State) : Result := commitReg rd (.ok .empty) s

/-- EQ rs1, rs2 (R157). -/
def execEq (rs1 rs2 : RegIdx) (s : State) : Result := commitFlag (eqFlag s rs1 rs2) s

end Sys2Proof.Machine
end

