-- ==== Sys2Proof/Machine/Pairing.lean ====
section
/-! DEFINITION. The Ate pairing engine: the line function (48_pairing.md R422), the Miller state machine (R425, R426,
R434) and the final exponent (49_final_exp.md R460). -/

namespace Sys2Proof.Machine

/-- ATE = 6u + 2, 65 bits (R421). -/
def ate : Nat := 29793968203157093288

/-- The group order r (00_scope.md R7). -/
def groupOrder : Nat :=
  21888242871839275222246405745257275088548364400416034343698204186575808495617

/-- E = (P¹² − 1)/r (49_final_exp.md R460). -/
def finalExponent : Nat := (P ^ 12 - 1) / groupOrder

/-- FEXP's value, f^E exactly (49_final_exp.md R461). -/
def finalExp (f : Fp12) : Fp12 := f.pow finalExponent

/-! ## The line function (R422) -/

/-- −yP + (λ·xP)·w + (yT − λ·xT)·w³. -/
def lineNonvert (lam xt yt : Fp2) (xp yp : Fp) : Fp12 :=
  ⟨⟨Fp2.ofFp yp.neg, Fp2.zero, Fp2.zero⟩, ⟨lam.scale xp, yt.sub (lam.mul xt), Fp2.zero⟩⟩

/-- xP − xT·w². -/
def lineVert (xt : Fp2) (xp : Fp) : Fp12 := ⟨⟨Fp2.ofFp xp, xt.neg, Fp2.zero⟩, Fp6.zero⟩

/-- `line(T, S, P)`; nothing where the line cannot be formed: a vertical tangent (R424 (b)), or a point at infinity
(R424 (a) for T; S and P are finite in every state a run reaches, log entry 9). -/
def line : G2 → G2 → G1 → Option Fp12
  | .aff xt yt, .aff xs ys, .aff xp yp =>
    if xt = xs then
      if yt = ys then
        if yt = Fp2.zero then none
        else some (lineNonvert (tangentSlope fp2Ops xt yt) xt yt xp yp)
      else some (lineVert xt xp)
    else some (lineNonvert (chordSlope fp2Ops xt yt xs ys) xt yt xp yp)
  | _, _, _ => none

/-- Multiply the line through T and S into f and add S to T; ℓ becomes the last line value. -/
def lineAndAdd (f : Fp12) (t sPt : G2) (p : G1) : Option (Fp12 × G2 × Fp12) :=
  match line t sPt p with
  | some l => some (f.mul l, g2Add t sPt, l)
  | none => none

/-! ## The steps (R425, R426); nothing where the step is degenerate -/

/-- `step_LOOP` up to its writes: the new f, T and line value. -/
def loopBody (u : Miller) : Option (Fp12 × G2 × Fp12) :=
  match lineAndAdd (u.f.mul u.f) u.t u.t u.p with
  | none => none
  | some (f, t, l) => if ate.testBit u.i.toNat then lineAndAdd f t u.q u.p else some (f, t, l)

/-- `step_LOOP` (R425): ML_I counts down, and after bit 0 the state is FROB1. -/
def stepLoop (u : Miller) : Option Miller :=
  match loopBody u with
  | none => none
  | some (f, t, l) =>
    if u.i = 0 then some { u with f := f, t := t, l := l, st := .frob1 }
    else some { u with f := f, t := t, l := l, i := u.i - 1 }

/-- `step_FROB1` (R426), S = π1(Q). -/
def stepFrob1 (u : Miller) : Option Miller :=
  match lineAndAdd u.f u.t (g2Frob1 u.q) u.p with
  | none => none
  | some (f, t, l) => some { u with f := f, t := t, l := l, st := .frob2 }

/-- `step_FROB2` (R426), S = −π2(Q). -/
def stepFrob2 (u : Miller) : Option Miller :=
  match lineAndAdd u.f u.t (g2Neg (g2Frob2 u.q)) u.p with
  | none => none
  | some (f, t, l) => some { u with f := f, t := t, l := l, st := .done }

/-- One Miller step, raising ML_DEGENERATE with the state it started in (R424), and ML_STATE where there is no step to
perform (R428). -/
def millerStep (u : Miller) : Except Exc Miller :=
  match u.st with
  | .idle => .error (.mlState .idle)
  | .done => .error (.mlState .done)
  | .loop => match stepLoop u with
    | some v => .ok v
    | none => .error (.mlDegenerate .loop)
  | .frob1 => match stepFrob1 u with
    | some v => .ok v
    | none => .error (.mlDegenerate .frob1)
  | .frob2 => match stepFrob2 u with
    | some v => .ok v
    | none => .error (.mlDegenerate .frob2)

/-- The Miller unit after `MLINIT` of Q and P (R427): with O on either side the loop is already done. -/
def millerInit (q : G2) (p : G1) : Miller where
  st := if p = .inf ∨ q = .inf then .done else .loop
  i := 63
  f := Fp12.one
  t := q
  q := q
  p := p
  l := Fp12.one

/-- `while ML_ST ≠ DONE: MLSTEP` (R429) for at most `n` steps: the Miller unit after the steps that completed, and the
exception that ended the loop, if one did. -/
def millerLoop : Nat → Miller → Miller × Option Exc
  | 0, u => (u, none)
  | n + 1, u =>
    if u.st = .done then (u, none)
    else match millerStep u with
      | .ok v => millerLoop n v
      | .error e => (u, some e)

/-- The number of steps of a run from MLINIT with finite inputs: 64 LOOP, 1 FROB1, 1 FROB2 (R434). -/
def millerSteps : Nat := 66

end Sys2Proof.Machine
end

