-- ==== Sys2Proof/Machine/FinalExpInsns.lean ====
section
/-! DEFINITION. The final exponentiation (49_final_exp.md §2). -/

namespace Sys2Proof.Machine

/-- FEXP rd, rs1 (R461): DIV_BY_ZERO for 0, else f^E exactly. -/
def execFexp (rd rs1 : RegIdx) (s : State) : Result :=
  commitReg rd ((src s rs1 asFp12).bind fun f =>
    if f = Fp12.zero then .error (.divByZero rs1) else .ok (.fp12 (finalExp f))) s

end Sys2Proof.Machine
end

