-- ==== Sys2Proof/Machine/Fp12Insns.lean ====
section
/-! DEFINITION. The .FP12 instructions (45_fp12.md). -/

namespace Sys2Proof.Machine

/-- ZERO.FP12 rd (R323). -/
def execZeroFp12 (rd : RegIdx) (s : State) : Result := commitReg rd (.ok (.fp12 Fp12.zero)) s

/-- ONE.FP12 rd (R324). -/
def execOneFp12 (rd : RegIdx) (s : State) : Result := commitReg rd (.ok (.fp12 Fp12.one)) s

/-- ADD.FP12 rd, rs1, rs2 (R325). -/
def execAddFp12 (rd rs1 rs2 : RegIdx) (s : State) : Result :=
  commitReg rd ((srcs s rs1 asFp12 rs2 asFp12).map fun x => .fp12 (x.1.add x.2)) s

/-- SUB.FP12 rd, rs1, rs2 (R326). -/
def execSubFp12 (rd rs1 rs2 : RegIdx) (s : State) : Result :=
  commitReg rd ((srcs s rs1 asFp12 rs2 asFp12).map fun x => .fp12 (x.1.sub x.2)) s

/-- MUL.FP12 rd, rs1, rs2 (R329). -/
def execMulFp12 (rd rs1 rs2 : RegIdx) (s : State) : Result :=
  commitReg rd ((srcs s rs1 asFp12 rs2 asFp12).map fun x => .fp12 (x.1.mul x.2)) s

/-- NEG.FP12 rd, rs1 (R328). -/
def execNegFp12 (rd rs1 : RegIdx) (s : State) : Result :=
  commitReg rd ((src s rs1 asFp12).map fun a => .fp12 a.neg) s

/-- SQR.FP12 rd, rs1 (R330). -/
def execSqrFp12 (rd rs1 : RegIdx) (s : State) : Result :=
  commitReg rd ((src s rs1 asFp12).map fun a => .fp12 (a.mul a)) s

/-- INV.FP12 rd, rs1 (R327): DIV_BY_ZERO for the zero of the level. -/
def execInvFp12 (rd rs1 : RegIdx) (s : State) : Result :=
  commitReg rd ((src s rs1 asFp12).bind fun a =>
    if a = Fp12.zero then .error (.divByZero rs1) else .ok (.fp12 a.inv)) s

/-- POW.FP12 rd, rs1, rs2 (R331): the exponent is the scalar as an integer. -/
def execPowFp12 (rd rs1 rs2 : RegIdx) (s : State) : Result :=
  commitReg rd ((srcs s rs1 asFp12 rs2 asSc).map fun x => .fp12 (x.1.pow x.2.toNat)) s

/-- CONJ.FP12 rd, rs1 (R332). -/
def execConjFp12 (rd rs1 : RegIdx) (s : State) : Result :=
  commitReg rd ((src s rs1 asFp12).map fun a => .fp12 a.conj) s

/-- FROB.FP12 rd, rs1, k (R333). -/
def execFrobFp12 (rd rs1 : RegIdx) (k : Imm9) (s : State) : Result :=
  commitReg rd ((src s rs1 asFp12).map fun a => .fp12 (a.frob k.toNat)) s

/-- ISZERO.FP12 rs1 (R334). -/
def execIszeroFp12 (rs1 : RegIdx) (s : State) : Result :=
  commitFlag ((src s rs1 asFp12).map (isConst Fp12.zero)) s

/-- ISONE.FP12 rs1 (R335). -/
def execIsoneFp12 (rs1 : RegIdx) (s : State) : Result :=
  commitFlag ((src s rs1 asFp12).map (isConst Fp12.one)) s

/-- EMB.FP12 rd, rs1 (R337). -/
def execEmbFp12 (rd rs1 : RegIdx) (s : State) : Result :=
  commitReg rd ((src s rs1 asUpToFp6).map fun c => .fp12 (Fp12.ofFp6 c)) s

/-- COEF.FP12 rd, rs1, idx (R338). -/
def execCoefFp12 (rd rs1 : RegIdx) (idx : Imm9) (s : State) : Result :=
  commitReg rd ((src s rs1 asFp12).map fun a => .fp (coeffAt a.coeffs idx.toNat)) s

end Sys2Proof.Machine
end

