-- ==== Sys2Proof/Machine/Fp2Insns.lean ====
section
/-! DEFINITION. The .FP2 instructions (43_fp2.md). -/

namespace Sys2Proof.Machine

/-- ZERO.FP2 rd (R252). -/
def execZeroFp2 (rd : RegIdx) (s : State) : Result := commitReg rd (.ok (.fp2 Fp2.zero)) s

/-- ONE.FP2 rd (R253). -/
def execOneFp2 (rd : RegIdx) (s : State) : Result := commitReg rd (.ok (.fp2 Fp2.one)) s

/-- ADD.FP2 rd, rs1, rs2 (R254). -/
def execAddFp2 (rd rs1 rs2 : RegIdx) (s : State) : Result :=
  commitReg rd ((srcs s rs1 asFp2 rs2 asFp2).map fun x => .fp2 (x.1.add x.2)) s

/-- SUB.FP2 rd, rs1, rs2 (R255). -/
def execSubFp2 (rd rs1 rs2 : RegIdx) (s : State) : Result :=
  commitReg rd ((srcs s rs1 asFp2 rs2 asFp2).map fun x => .fp2 (x.1.sub x.2)) s

/-- MUL.FP2 rd, rs1, rs2 (R257). -/
def execMulFp2 (rd rs1 rs2 : RegIdx) (s : State) : Result :=
  commitReg rd ((srcs s rs1 asFp2 rs2 asFp2).map fun x => .fp2 (x.1.mul x.2)) s

/-- NEG.FP2 rd, rs1 (R256). -/
def execNegFp2 (rd rs1 : RegIdx) (s : State) : Result :=
  commitReg rd ((src s rs1 asFp2).map fun a => .fp2 a.neg) s

/-- SQR.FP2 rd, rs1 (R259). -/
def execSqrFp2 (rd rs1 : RegIdx) (s : State) : Result :=
  commitReg rd ((src s rs1 asFp2).map fun a => .fp2 (a.mul a)) s

/-- INV.FP2 rd, rs1 (R258): DIV_BY_ZERO for the zero of the level. -/
def execInvFp2 (rd rs1 : RegIdx) (s : State) : Result :=
  commitReg rd ((src s rs1 asFp2).bind fun a =>
    if a = Fp2.zero then .error (.divByZero rs1) else .ok (.fp2 a.inv)) s

/-- POW.FP2 rd, rs1, rs2 (R260): the exponent is the scalar as an integer. -/
def execPowFp2 (rd rs1 rs2 : RegIdx) (s : State) : Result :=
  commitReg rd ((srcs s rs1 asFp2 rs2 asSc).map fun x => .fp2 (x.1.pow x.2.toNat)) s

/-- CONJ.FP2 rd, rs1 (R261). -/
def execConjFp2 (rd rs1 : RegIdx) (s : State) : Result :=
  commitReg rd ((src s rs1 asFp2).map fun a => .fp2 a.conj) s

/-- FROB.FP2 rd, rs1, k (R263). -/
def execFrobFp2 (rd rs1 : RegIdx) (k : Imm9) (s : State) : Result :=
  commitReg rd ((src s rs1 asFp2).map fun a => .fp2 (a.frob k.toNat)) s

/-- MULXI rd, rs1 (R262). -/
def execMulxi (rd rs1 : RegIdx) (s : State) : Result :=
  commitReg rd ((src s rs1 asFp2).map fun a => .fp2 a.mulXi) s

/-- ISZERO.FP2 rs1 (R264). -/
def execIszeroFp2 (rs1 : RegIdx) (s : State) : Result :=
  commitFlag ((src s rs1 asFp2).map (isConst Fp2.zero)) s

/-- ISONE.FP2 rs1 (R265). -/
def execIsoneFp2 (rs1 : RegIdx) (s : State) : Result :=
  commitFlag ((src s rs1 asFp2).map (isConst Fp2.one)) s

/-- EMB.FP2 rd, rs1 (R267). -/
def execEmbFp2 (rd rs1 : RegIdx) (s : State) : Result :=
  commitReg rd ((src s rs1 asFp).map fun a => .fp2 (Fp2.ofFp a)) s

/-- MKFP2 rd, rs1, rs2 (R268). -/
def execMkfp2 (rd rs1 rs2 : RegIdx) (s : State) : Result :=
  commitReg rd ((srcs s rs1 asFp rs2 asFp).map fun x => .fp2 ⟨x.1, x.2⟩) s

/-- COEF.FP2 rd, rs1, idx (R269). -/
def execCoefFp2 (rd rs1 : RegIdx) (idx : Imm9) (s : State) : Result :=
  commitReg rd ((src s rs1 asFp2).map fun a => .fp (coeffAt a.coeffs idx.toNat)) s

end Sys2Proof.Machine
end

