-- ==== Sys2Proof/Machine/Fp6Insns.lean ====
section
/-! DEFINITION. The .FP6 instructions (44_fp6.md). -/

namespace Sys2Proof.Machine

/-- ZERO.FP6 rd (R292). -/
def execZeroFp6 (rd : RegIdx) (s : State) : Result := commitReg rd (.ok (.fp6 Fp6.zero)) s

/-- ONE.FP6 rd (R293). -/
def execOneFp6 (rd : RegIdx) (s : State) : Result := commitReg rd (.ok (.fp6 Fp6.one)) s

/-- ADD.FP6 rd, rs1, rs2 (R294). -/
def execAddFp6 (rd rs1 rs2 : RegIdx) (s : State) : Result :=
  commitReg rd ((srcs s rs1 asFp6 rs2 asFp6).map fun x => .fp6 (x.1.add x.2)) s

/-- SUB.FP6 rd, rs1, rs2 (R295). -/
def execSubFp6 (rd rs1 rs2 : RegIdx) (s : State) : Result :=
  commitReg rd ((srcs s rs1 asFp6 rs2 asFp6).map fun x => .fp6 (x.1.sub x.2)) s

/-- MUL.FP6 rd, rs1, rs2 (R296). -/
def execMulFp6 (rd rs1 rs2 : RegIdx) (s : State) : Result :=
  commitReg rd ((srcs s rs1 asFp6 rs2 asFp6).map fun x => .fp6 (x.1.mul x.2)) s

/-- NEG.FP6 rd, rs1 (R298). -/
def execNegFp6 (rd rs1 : RegIdx) (s : State) : Result :=
  commitReg rd ((src s rs1 asFp6).map fun a => .fp6 a.neg) s

/-- SQR.FP6 rd, rs1 (R299). -/
def execSqrFp6 (rd rs1 : RegIdx) (s : State) : Result :=
  commitReg rd ((src s rs1 asFp6).map fun a => .fp6 (a.mul a)) s

/-- INV.FP6 rd, rs1 (R297): DIV_BY_ZERO for the zero of the level. -/
def execInvFp6 (rd rs1 : RegIdx) (s : State) : Result :=
  commitReg rd ((src s rs1 asFp6).bind fun a =>
    if a = Fp6.zero then .error (.divByZero rs1) else .ok (.fp6 a.inv)) s

/-- POW.FP6 rd, rs1, rs2 (R300): the exponent is the scalar as an integer. -/
def execPowFp6 (rd rs1 rs2 : RegIdx) (s : State) : Result :=
  commitReg rd ((srcs s rs1 asFp6 rs2 asSc).map fun x => .fp6 (x.1.pow x.2.toNat)) s

/-- FROB.FP6 rd, rs1, k (R301). -/
def execFrobFp6 (rd rs1 : RegIdx) (k : Imm9) (s : State) : Result :=
  commitReg rd ((src s rs1 asFp6).map fun a => .fp6 (a.frob k.toNat)) s

/-- ISZERO.FP6 rs1 (R302). -/
def execIszeroFp6 (rs1 : RegIdx) (s : State) : Result :=
  commitFlag ((src s rs1 asFp6).map (isConst Fp6.zero)) s

/-- ISONE.FP6 rs1 (R303). -/
def execIsoneFp6 (rs1 : RegIdx) (s : State) : Result :=
  commitFlag ((src s rs1 asFp6).map (isConst Fp6.one)) s

/-- EMB.FP6 rd, rs1 (R304). -/
def execEmbFp6 (rd rs1 : RegIdx) (s : State) : Result :=
  commitReg rd ((src s rs1 asUpToFp2).map fun c => .fp6 (Fp6.ofFp2 c)) s

/-- COEF.FP6 rd, rs1, idx (R305). -/
def execCoefFp6 (rd rs1 : RegIdx) (idx : Imm9) (s : State) : Result :=
  commitReg rd ((src s rs1 asFp6).map fun a => .fp (coeffAt a.coeffs idx.toNat)) s

end Sys2Proof.Machine
end

