-- ==== Sys2Proof/Machine/FpInsns.lean ====
section
/-! DEFINITION. The .FP instructions (42_fp.md). -/

namespace Sys2Proof.Machine

/-- ZERO.FP rd (R212). -/
def execZeroFp (rd : RegIdx) (s : State) : Result := commitReg rd (.ok (.fp Fp.zero)) s

/-- ONE.FP rd (R213). -/
def execOneFp (rd : RegIdx) (s : State) : Result := commitReg rd (.ok (.fp Fp.one)) s

/-- ADD.FP rd, rs1, rs2 (R214). -/
def execAddFp (rd rs1 rs2 : RegIdx) (s : State) : Result :=
  commitReg rd ((srcs s rs1 asFp rs2 asFp).map fun x => .fp (x.1.add x.2)) s

/-- SUB.FP rd, rs1, rs2 (R215). -/
def execSubFp (rd rs1 rs2 : RegIdx) (s : State) : Result :=
  commitReg rd ((srcs s rs1 asFp rs2 asFp).map fun x => .fp (x.1.sub x.2)) s

/-- MUL.FP rd, rs1, rs2 (R217). -/
def execMulFp (rd rs1 rs2 : RegIdx) (s : State) : Result :=
  commitReg rd ((srcs s rs1 asFp rs2 asFp).map fun x => .fp (x.1.mul x.2)) s

/-- NEG.FP rd, rs1 (R216). -/
def execNegFp (rd rs1 : RegIdx) (s : State) : Result :=
  commitReg rd ((src s rs1 asFp).map fun a => .fp a.neg) s

/-- SQR.FP rd, rs1 (R218). -/
def execSqrFp (rd rs1 : RegIdx) (s : State) : Result :=
  commitReg rd ((src s rs1 asFp).map fun a => .fp (a.mul a)) s

/-- INV.FP rd, rs1 (R219): DIV_BY_ZERO for the zero of the level. -/
def execInvFp (rd rs1 : RegIdx) (s : State) : Result :=
  commitReg rd ((src s rs1 asFp).bind fun a =>
    if a = Fp.zero then .error (.divByZero rs1) else .ok (.fp a.inv)) s

/-- POW.FP rd, rs1, rs2 (R220): the exponent is the scalar as an integer. -/
def execPowFp (rd rs1 rs2 : RegIdx) (s : State) : Result :=
  commitReg rd ((srcs s rs1 asFp rs2 asSc).map fun x => .fp (x.1.pow x.2.toNat)) s

/-- FROB.FP rd, rs1, k (R221): the identity for every k. -/
def execFrobFp (rd rs1 : RegIdx) (_ : Imm9) (s : State) : Result :=
  commitReg rd ((src s rs1 asFp).map fun a => .fp a) s

/-- ISZERO.FP rs1 (R222). -/
def execIszeroFp (rs1 : RegIdx) (s : State) : Result :=
  commitFlag ((src s rs1 asFp).map (isConst Fp.zero)) s

/-- ISONE.FP rs1 (R223). -/
def execIsoneFp (rs1 : RegIdx) (s : State) : Result :=
  commitFlag ((src s rs1 asFp).map (isConst Fp.one)) s

/-- COEF.FP rd, rs1, idx (R224): idx is 0 in every legal word. -/
def execCoefFp (rd rs1 : RegIdx) (idx : Imm9) (s : State) : Result :=
  commitReg rd ((src s rs1 asFp).map fun a => .fp (coeffAt [a] idx.toNat)) s

end Sys2Proof.Machine
end

