-- ==== Sys2Proof/Machine/G1Insns.lean ====
section
/-! DEFINITION. The .G1 point instructions (46_g1.md). -/

namespace Sys2Proof.Machine

/-- PADD.G1 rd, rs1, rs2 (R363). -/
def execPaddG1 (rd rs1 rs2 : RegIdx) (s : State) : Result :=
  commitReg rd ((srcs s rs1 asG1 rs2 asG1).map fun x => ofG1 (x.1.1.join x.2.1) (g1Add x.1.2 x.2.2)) s

/-- PDBL.G1 rd, rs1 (R364). -/
def execPdblG1 (rd rs1 : RegIdx) (s : State) : Result :=
  commitReg rd ((src s rs1 asG1).map fun a => ofG1 a.1 (g1Add a.2 a.2)) s

/-- PNEG.G1 rd, rs1 (R365). -/
def execPnegG1 (rd rs1 : RegIdx) (s : State) : Result :=
  commitReg rd ((src s rs1 asG1).map fun a => ofG1 a.1 (g1Neg a.2)) s

/-- PMUL.G1 rd, rs1, rs2 (R367): the scalar is not reduced. -/
def execPmulG1 (rd rs1 rs2 : RegIdx) (s : State) : Result :=
  commitReg rd ((srcs s rs1 asG1 rs2 asSc).map fun x => ofG1 x.1.1 (g1Mul x.1.2 x.2.toNat)) s

/-- PTOJ.G1 rd, rs1 (R368): affine operands only. -/
def execPtojG1 (rd rs1 : RegIdx) (s : State) : Result :=
  commitReg rd ((src s rs1 asG1Aff).map .g1j) s

/-- PTOA.G1 rd, rs1 (R369): Jacobian operands only. -/
def execPtoaG1 (rd rs1 : RegIdx) (s : State) : Result :=
  commitReg rd ((src s rs1 asG1Jac).map .g1) s

/-- ISINF.G1 rs1 (R366). -/
def execIsinfG1 (rs1 : RegIdx) (s : State) : Result :=
  commitFlag ((src s rs1 asG1).map fun a => isInf a.2) s

/-- PINF.G1 rd (R370). -/
def execPinfG1 (rd : RegIdx) (s : State) : Result := commitReg rd (.ok (.g1 .inf)) s

end Sys2Proof.Machine
end

