-- ==== Sys2Proof/Machine/G2Insns.lean ====
section
/-! DEFINITION. The .G2 point instructions (47_g2.md). -/

namespace Sys2Proof.Machine

/-- PADD.G2 rd, rs1, rs2 (R394). -/
def execPaddG2 (rd rs1 rs2 : RegIdx) (s : State) : Result :=
  commitReg rd ((srcs s rs1 asG2 rs2 asG2).map fun x => ofG2 (x.1.1.join x.2.1) (g2Add x.1.2 x.2.2)) s

/-- PDBL.G2 rd, rs1 (R395). -/
def execPdblG2 (rd rs1 : RegIdx) (s : State) : Result :=
  commitReg rd ((src s rs1 asG2).map fun a => ofG2 a.1 (g2Add a.2 a.2)) s

/-- PNEG.G2 rd, rs1 (R396). -/
def execPnegG2 (rd rs1 : RegIdx) (s : State) : Result :=
  commitReg rd ((src s rs1 asG2).map fun a => ofG2 a.1 (g2Neg a.2)) s

/-- PMUL.G2 rd, rs1, rs2 (R398): the scalar is not reduced. -/
def execPmulG2 (rd rs1 rs2 : RegIdx) (s : State) : Result :=
  commitReg rd ((srcs s rs1 asG2 rs2 asSc).map fun x => ofG2 x.1.1 (g2Mul x.1.2 x.2.toNat)) s

/-- PTOJ.G2 rd, rs1 (R399): affine operands only. -/
def execPtojG2 (rd rs1 : RegIdx) (s : State) : Result :=
  commitReg rd ((src s rs1 asG2Aff).map .g2j) s

/-- PTOA.G2 rd, rs1 (R400): Jacobian operands only. -/
def execPtoaG2 (rd rs1 : RegIdx) (s : State) : Result :=
  commitReg rd ((src s rs1 asG2Jac).map .g2) s

/-- ISINF.G2 rs1 (R397). -/
def execIsinfG2 (rs1 : RegIdx) (s : State) : Result :=
  commitFlag ((src s rs1 asG2).map fun a => isInf a.2) s

/-- PINF.G2 rd (R401). -/
def execPinfG2 (rd : RegIdx) (s : State) : Result := commitReg rd (.ok (.g2 .inf)) s

end Sys2Proof.Machine
end

