-- ==== Sys2Proof/Machine/LoadStore.lean ====
section
/-! DEFINITION. Loads and stores (41_load_store.md). -/

namespace Sys2Proof.Machine

/-- LD.FP rd, [g] (R181). -/
def execLdFp (rd : RegIdx) (g : Imm9) (s : State) : Result :=
  commitReg rd ((loadFrom g.toNat 1 (fpWord s)).map .fp) s

/-- LD.FP2 rd, [g] (R182). -/
def execLdFp2 (rd : RegIdx) (g : Imm9) (s : State) : Result :=
  commitReg rd ((loadFrom g.toNat 2 (fp2Word s)).map .fp2) s

/-- LD.FP6 rd, [g] (R183). -/
def execLdFp6 (rd : RegIdx) (g : Imm9) (s : State) : Result :=
  commitReg rd ((loadFrom g.toNat 6 (fp6Word s)).map .fp6) s

/-- LD.FP12 rd, [g] (R184). -/
def execLdFp12 (rd : RegIdx) (g : Imm9) (s : State) : Result :=
  commitReg rd ((loadFrom g.toNat 12 (fp12Word s)).map .fp12) s

/-- ST.FP [g], rs1 (R185). -/
def execStFp (g : Imm9) (rs1 : RegIdx) (s : State) : Result :=
  commitDmem (storeTo s g.toNat rs1 asFp 1 fun a => [a.val]) s

/-- ST.FP2 [g], rs1 (R186). -/
def execStFp2 (g : Imm9) (rs1 : RegIdx) (s : State) : Result :=
  commitDmem (storeTo s g.toNat rs1 asFp2 2 fun a => a.coeffs.map Fp.val) s

/-- ST.FP6 [g], rs1 (R187). -/
def execStFp6 (g : Imm9) (rs1 : RegIdx) (s : State) : Result :=
  commitDmem (storeTo s g.toNat rs1 asFp6 6 fun a => a.coeffs.map Fp.val) s

/-- ST.FP12 [g], rs1 (R188). -/
def execStFp12 (g : Imm9) (rs1 : RegIdx) (s : State) : Result :=
  commitDmem (storeTo s g.toNat rs1 asFp12 12 fun a => a.coeffs.map Fp.val) s

/-- LDG1 rd, [g] (R190). -/
def execLdg1 (rd : RegIdx) (g : Imm9) (s : State) : Result :=
  commitReg rd ((loadFrom g.toNat 2 (g1Word s)).map .g1) s

/-- LDG2 rd, [g] (R191). -/
def execLdg2 (rd : RegIdx) (g : Imm9) (s : State) : Result :=
  commitReg rd ((loadFrom g.toNat 4 (g2Word s)).map .g2) s

/-- STG1 [g], rs1 (R192): affine points only. -/
def execStg1 (g : Imm9) (rs1 : RegIdx) (s : State) : Result :=
  commitDmem (storeTo s g.toNat rs1 asG1Aff 2 g1Wire) s

/-- STG2 [g], rs1 (R193): affine points only. -/
def execStg2 (g : Imm9) (rs1 : RegIdx) (s : State) : Result :=
  commitDmem (storeTo s g.toNat rs1 asG2Aff 4 g2Wire) s

/-- LDSC rd, [g] (R194): all 256 bits, no range check. -/
def execLdsc (rd : RegIdx) (g : Imm9) (s : State) : Result :=
  commitReg rd (.ok (.sc (BitVec.ofNat 256 (word s g.toNat)))) s

/-- STSC [g], rs1 (R195). -/
def execStsc (g : Imm9) (rs1 : RegIdx) (s : State) : Result :=
  commitDmem (storeTo s g.toNat rs1 asSc 1 fun k => [k.toNat]) s

end Sys2Proof.Machine
end

