-- ==== Sys2Proof/Machine/MillerInsns.lean ====
section
/-! DEFINITION. The instructions of the Miller unit (48_pairing.md §3). -/

namespace Sys2Proof.Machine

/-- MLINIT rq, rp (R427). -/
def execMlinit (rs1 rs2 : RegIdx) (s : State) : Result :=
  commitMl ((srcs s rs1 asG2 rs2 asG1).map fun x => millerInit x.1.2 x.2.2) s

/-- MLSTEP (R428). -/
def execMlstep (s : State) : Result := commitMl (millerStep s.ml) s

/-- MILLER rd, rq, rp (R429). A step that raises leaves the Miller unit as the completed steps left it, the one partial
commit of the ISA (00_scope.md R13). -/
def execMiller (rd rs1 rs2 : RegIdx) (s : State) : Result :=
  match srcs s rs1 asG2 rs2 asG1 with
  | .error e => .next (trap e s)
  | .ok x =>
    match millerLoop millerSteps (millerInit x.1.2 x.2.2) with
    | (u, some e) => .next (trap e (s.setMl u))
    | (u, none) => commitReg rd (.ok (.fp12 u.f)) (s.setMl u)

/-- `require ML_ST ≠ IDLE else ML_STATE(0)` and the value read (R430, R432, R433). -/
def readMl (u : Miller) (v : RegVal) : Except Exc RegVal :=
  if u.st = .idle then .error (.mlState .idle) else .ok v

/-- MLRDF rd (R430). -/
def execMlrdf (rd : RegIdx) (s : State) : Result := commitReg rd (readMl s.ml (.fp12 s.ml.f)) s

/-- MLRDT rd (R432): affine. -/
def execMlrdt (rd : RegIdx) (s : State) : Result := commitReg rd (readMl s.ml (.g2 s.ml.t)) s

/-- MLRDL rd (R433). -/
def execMlrdl (rd : RegIdx) (s : State) : Result := commitReg rd (readMl s.ml (.fp12 s.ml.l)) s

/-- MLDONE (R431). -/
def execMldone (s : State) : Result := commitFlag (.ok (mlIsDone s.ml)) s

end Sys2Proof.Machine
end

