-- ==== Sys2Proof/Machine/Dispatch.lean ====
section
/-! DEFINITION. The dispatch: one arm per constructor of Instr, each one direct call of that instruction's meaning. -/

namespace Sys2Proof.Machine

def exec (i : Instr) (s : State) : Host.Outcome State Fault Refusal :=
  match i with
  | .halt => Sys2Proof.Machine.execHalt s
  | .nop => Sys2Proof.Machine.execNop s
  | .jmp target => Sys2Proof.Machine.execJmp target s
  | .bt target => Sys2Proof.Machine.execBt target s
  | .bf target => Sys2Proof.Machine.execBf target s
  | .mov rd rs1 => Sys2Proof.Machine.execMov rd rs1 s
  | .clr rd => Sys2Proof.Machine.execClr rd s
  | .eq rs1 rs2 => Sys2Proof.Machine.execEq rs1 rs2 s
  | .zeroFp rd => Sys2Proof.Machine.execZeroFp rd s
  | .zeroFp2 rd => Sys2Proof.Machine.execZeroFp2 rd s
  | .zeroFp6 rd => Sys2Proof.Machine.execZeroFp6 rd s
  | .zeroFp12 rd => Sys2Proof.Machine.execZeroFp12 rd s
  | .oneFp rd => Sys2Proof.Machine.execOneFp rd s
  | .oneFp2 rd => Sys2Proof.Machine.execOneFp2 rd s
  | .oneFp6 rd => Sys2Proof.Machine.execOneFp6 rd s
  | .oneFp12 rd => Sys2Proof.Machine.execOneFp12 rd s
  | .ldFp rd g => Sys2Proof.Machine.execLdFp rd g s
  | .ldFp2 rd g => Sys2Proof.Machine.execLdFp2 rd g s
  | .ldFp6 rd g => Sys2Proof.Machine.execLdFp6 rd g s
  | .ldFp12 rd g => Sys2Proof.Machine.execLdFp12 rd g s
  | .stFp g rs1 => Sys2Proof.Machine.execStFp g rs1 s
  | .stFp2 g rs1 => Sys2Proof.Machine.execStFp2 g rs1 s
  | .stFp6 g rs1 => Sys2Proof.Machine.execStFp6 g rs1 s
  | .stFp12 g rs1 => Sys2Proof.Machine.execStFp12 g rs1 s
  | .ldg1 rd g => Sys2Proof.Machine.execLdg1 rd g s
  | .ldg2 rd g => Sys2Proof.Machine.execLdg2 rd g s
  | .stg1 g rs1 => Sys2Proof.Machine.execStg1 g rs1 s
  | .stg2 g rs1 => Sys2Proof.Machine.execStg2 g rs1 s
  | .ldsc rd g => Sys2Proof.Machine.execLdsc rd g s
  | .stsc g rs1 => Sys2Proof.Machine.execStsc g rs1 s
  | .mlinit rs1 rs2 => Sys2Proof.Machine.execMlinit rs1 rs2 s
  | .mlstep => Sys2Proof.Machine.execMlstep s
  | .miller rd rs1 rs2 => Sys2Proof.Machine.execMiller rd rs1 rs2 s
  | .mlrdf rd => Sys2Proof.Machine.execMlrdf rd s
  | .mlrdt rd => Sys2Proof.Machine.execMlrdt rd s
  | .mlrdl rd => Sys2Proof.Machine.execMlrdl rd s
  | .mldone => Sys2Proof.Machine.execMldone s
  | .fexp rd rs1 => Sys2Proof.Machine.execFexp rd rs1 s
  | .addFp rd rs1 rs2 => Sys2Proof.Machine.execAddFp rd rs1 rs2 s
  | .addFp2 rd rs1 rs2 => Sys2Proof.Machine.execAddFp2 rd rs1 rs2 s
  | .addFp6 rd rs1 rs2 => Sys2Proof.Machine.execAddFp6 rd rs1 rs2 s
  | .addFp12 rd rs1 rs2 => Sys2Proof.Machine.execAddFp12 rd rs1 rs2 s
  | .subFp rd rs1 rs2 => Sys2Proof.Machine.execSubFp rd rs1 rs2 s
  | .subFp2 rd rs1 rs2 => Sys2Proof.Machine.execSubFp2 rd rs1 rs2 s
  | .subFp6 rd rs1 rs2 => Sys2Proof.Machine.execSubFp6 rd rs1 rs2 s
  | .subFp12 rd rs1 rs2 => Sys2Proof.Machine.execSubFp12 rd rs1 rs2 s
  | .negFp rd rs1 => Sys2Proof.Machine.execNegFp rd rs1 s
  | .negFp2 rd rs1 => Sys2Proof.Machine.execNegFp2 rd rs1 s
  | .negFp6 rd rs1 => Sys2Proof.Machine.execNegFp6 rd rs1 s
  | .negFp12 rd rs1 => Sys2Proof.Machine.execNegFp12 rd rs1 s
  | .mulFp rd rs1 rs2 => Sys2Proof.Machine.execMulFp rd rs1 rs2 s
  | .mulFp2 rd rs1 rs2 => Sys2Proof.Machine.execMulFp2 rd rs1 rs2 s
  | .mulFp6 rd rs1 rs2 => Sys2Proof.Machine.execMulFp6 rd rs1 rs2 s
  | .mulFp12 rd rs1 rs2 => Sys2Proof.Machine.execMulFp12 rd rs1 rs2 s
  | .sqrFp rd rs1 => Sys2Proof.Machine.execSqrFp rd rs1 s
  | .sqrFp2 rd rs1 => Sys2Proof.Machine.execSqrFp2 rd rs1 s
  | .sqrFp6 rd rs1 => Sys2Proof.Machine.execSqrFp6 rd rs1 s
  | .sqrFp12 rd rs1 => Sys2Proof.Machine.execSqrFp12 rd rs1 s
  | .invFp rd rs1 => Sys2Proof.Machine.execInvFp rd rs1 s
  | .invFp2 rd rs1 => Sys2Proof.Machine.execInvFp2 rd rs1 s
  | .invFp6 rd rs1 => Sys2Proof.Machine.execInvFp6 rd rs1 s
  | .invFp12 rd rs1 => Sys2Proof.Machine.execInvFp12 rd rs1 s
  | .powFp rd rs1 rs2 => Sys2Proof.Machine.execPowFp rd rs1 rs2 s
  | .powFp2 rd rs1 rs2 => Sys2Proof.Machine.execPowFp2 rd rs1 rs2 s
  | .powFp6 rd rs1 rs2 => Sys2Proof.Machine.execPowFp6 rd rs1 rs2 s
  | .powFp12 rd rs1 rs2 => Sys2Proof.Machine.execPowFp12 rd rs1 rs2 s
  | .conjFp2 rd rs1 => Sys2Proof.Machine.execConjFp2 rd rs1 s
  | .conjFp12 rd rs1 => Sys2Proof.Machine.execConjFp12 rd rs1 s
  | .frobFp rd rs1 imm => Sys2Proof.Machine.execFrobFp rd rs1 imm s
  | .frobFp2 rd rs1 imm => Sys2Proof.Machine.execFrobFp2 rd rs1 imm s
  | .frobFp6 rd rs1 imm => Sys2Proof.Machine.execFrobFp6 rd rs1 imm s
  | .frobFp12 rd rs1 imm => Sys2Proof.Machine.execFrobFp12 rd rs1 imm s
  | .mulxi rd rs1 => Sys2Proof.Machine.execMulxi rd rs1 s
  | .iszeroFp rs1 => Sys2Proof.Machine.execIszeroFp rs1 s
  | .iszeroFp2 rs1 => Sys2Proof.Machine.execIszeroFp2 rs1 s
  | .iszeroFp6 rs1 => Sys2Proof.Machine.execIszeroFp6 rs1 s
  | .iszeroFp12 rs1 => Sys2Proof.Machine.execIszeroFp12 rs1 s
  | .isoneFp rs1 => Sys2Proof.Machine.execIsoneFp rs1 s
  | .isoneFp2 rs1 => Sys2Proof.Machine.execIsoneFp2 rs1 s
  | .isoneFp6 rs1 => Sys2Proof.Machine.execIsoneFp6 rs1 s
  | .isoneFp12 rs1 => Sys2Proof.Machine.execIsoneFp12 rs1 s
  | .embFp2 rd rs1 => Sys2Proof.Machine.execEmbFp2 rd rs1 s
  | .embFp6 rd rs1 => Sys2Proof.Machine.execEmbFp6 rd rs1 s
  | .embFp12 rd rs1 => Sys2Proof.Machine.execEmbFp12 rd rs1 s
  | .mkfp2 rd rs1 rs2 => Sys2Proof.Machine.execMkfp2 rd rs1 rs2 s
  | .coefFp rd rs1 imm => Sys2Proof.Machine.execCoefFp rd rs1 imm s
  | .coefFp2 rd rs1 imm => Sys2Proof.Machine.execCoefFp2 rd rs1 imm s
  | .coefFp6 rd rs1 imm => Sys2Proof.Machine.execCoefFp6 rd rs1 imm s
  | .coefFp12 rd rs1 imm => Sys2Proof.Machine.execCoefFp12 rd rs1 imm s
  | .paddG1 rd rs1 rs2 => Sys2Proof.Machine.execPaddG1 rd rs1 rs2 s
  | .paddG2 rd rs1 rs2 => Sys2Proof.Machine.execPaddG2 rd rs1 rs2 s
  | .pdblG1 rd rs1 => Sys2Proof.Machine.execPdblG1 rd rs1 s
  | .pdblG2 rd rs1 => Sys2Proof.Machine.execPdblG2 rd rs1 s
  | .pnegG1 rd rs1 => Sys2Proof.Machine.execPnegG1 rd rs1 s
  | .pnegG2 rd rs1 => Sys2Proof.Machine.execPnegG2 rd rs1 s
  | .pmulG1 rd rs1 rs2 => Sys2Proof.Machine.execPmulG1 rd rs1 rs2 s
  | .pmulG2 rd rs1 rs2 => Sys2Proof.Machine.execPmulG2 rd rs1 rs2 s
  | .ptojG1 rd rs1 => Sys2Proof.Machine.execPtojG1 rd rs1 s
  | .ptojG2 rd rs1 => Sys2Proof.Machine.execPtojG2 rd rs1 s
  | .ptoaG1 rd rs1 => Sys2Proof.Machine.execPtoaG1 rd rs1 s
  | .ptoaG2 rd rs1 => Sys2Proof.Machine.execPtoaG2 rd rs1 s
  | .isinfG1 rs1 => Sys2Proof.Machine.execIsinfG1 rs1 s
  | .isinfG2 rs1 => Sys2Proof.Machine.execIsinfG2 rs1 s
  | .pinfG1 rd => Sys2Proof.Machine.execPinfG1 rd s
  | .pinfG2 rd => Sys2Proof.Machine.execPinfG2 rd s

end Sys2Proof.Machine
end

