-- ==== Sys2Proof/WellFormed.lean ====
section
/-! DEFINITION. Which instructions are well formed. Every field has the width of its encoding, so the one check left
is the coefficient index of COEF: idx < N, N = 1, 2, 6, 12 (30_encoding.md R117, R118 (d)). -/

namespace Sys2Proof

/-- N(ft): the number of coefficients of a COEF's level, and 512 (no bound) for every other instruction. -/
def Instr.immBound : Instr → Nat
  | .halt => 512
  | .nop => 512
  | .jmp _ => 512
  | .bt _ => 512
  | .bf _ => 512
  | .mov _ _ => 512
  | .clr _ => 512
  | .eq _ _ => 512
  | .zeroFp _ => 512
  | .zeroFp2 _ => 512
  | .zeroFp6 _ => 512
  | .zeroFp12 _ => 512
  | .oneFp _ => 512
  | .oneFp2 _ => 512
  | .oneFp6 _ => 512
  | .oneFp12 _ => 512
  | .ldFp _ _ => 512
  | .ldFp2 _ _ => 512
  | .ldFp6 _ _ => 512
  | .ldFp12 _ _ => 512
  | .stFp _ _ => 512
  | .stFp2 _ _ => 512
  | .stFp6 _ _ => 512
  | .stFp12 _ _ => 512
  | .ldg1 _ _ => 512
  | .ldg2 _ _ => 512
  | .stg1 _ _ => 512
  | .stg2 _ _ => 512
  | .ldsc _ _ => 512
  | .stsc _ _ => 512
  | .mlinit _ _ => 512
  | .mlstep => 512
  | .miller _ _ _ => 512
  | .mlrdf _ => 512
  | .mlrdt _ => 512
  | .mlrdl _ => 512
  | .mldone => 512
  | .fexp _ _ => 512
  | .addFp _ _ _ => 512
  | .addFp2 _ _ _ => 512
  | .addFp6 _ _ _ => 512
  | .addFp12 _ _ _ => 512
  | .subFp _ _ _ => 512
  | .subFp2 _ _ _ => 512
  | .subFp6 _ _ _ => 512
  | .subFp12 _ _ _ => 512
  | .negFp _ _ => 512
  | .negFp2 _ _ => 512
  | .negFp6 _ _ => 512
  | .negFp12 _ _ => 512
  | .mulFp _ _ _ => 512
  | .mulFp2 _ _ _ => 512
  | .mulFp6 _ _ _ => 512
  | .mulFp12 _ _ _ => 512
  | .sqrFp _ _ => 512
  | .sqrFp2 _ _ => 512
  | .sqrFp6 _ _ => 512
  | .sqrFp12 _ _ => 512
  | .invFp _ _ => 512
  | .invFp2 _ _ => 512
  | .invFp6 _ _ => 512
  | .invFp12 _ _ => 512
  | .powFp _ _ _ => 512
  | .powFp2 _ _ _ => 512
  | .powFp6 _ _ _ => 512
  | .powFp12 _ _ _ => 512
  | .conjFp2 _ _ => 512
  | .conjFp12 _ _ => 512
  | .frobFp _ _ _ => 512
  | .frobFp2 _ _ _ => 512
  | .frobFp6 _ _ _ => 512
  | .frobFp12 _ _ _ => 512
  | .mulxi _ _ => 512
  | .iszeroFp _ => 512
  | .iszeroFp2 _ => 512
  | .iszeroFp6 _ => 512
  | .iszeroFp12 _ => 512
  | .isoneFp _ => 512
  | .isoneFp2 _ => 512
  | .isoneFp6 _ => 512
  | .isoneFp12 _ => 512
  | .embFp2 _ _ => 512
  | .embFp6 _ _ => 512
  | .embFp12 _ _ => 512
  | .mkfp2 _ _ _ => 512
  | .coefFp _ _ _ => 1
  | .coefFp2 _ _ _ => 2
  | .coefFp6 _ _ _ => 6
  | .coefFp12 _ _ _ => 12
  | .paddG1 _ _ _ => 512
  | .paddG2 _ _ _ => 512
  | .pdblG1 _ _ => 512
  | .pdblG2 _ _ => 512
  | .pnegG1 _ _ => 512
  | .pnegG2 _ _ => 512
  | .pmulG1 _ _ _ => 512
  | .pmulG2 _ _ _ => 512
  | .ptojG1 _ _ => 512
  | .ptojG2 _ _ => 512
  | .ptoaG1 _ _ => 512
  | .ptoaG2 _ _ => 512
  | .isinfG1 _ => 512
  | .isinfG2 _ => 512
  | .pinfG1 _ => 512
  | .pinfG2 _ => 512

/-- The immediate field, 0 where the format has none. -/
def Instr.imm : Instr → Imm9
  | .halt => 0#9
  | .nop => 0#9
  | .jmp target => target
  | .bt target => target
  | .bf target => target
  | .mov _ _ => 0#9
  | .clr _ => 0#9
  | .eq _ _ => 0#9
  | .zeroFp _ => 0#9
  | .zeroFp2 _ => 0#9
  | .zeroFp6 _ => 0#9
  | .zeroFp12 _ => 0#9
  | .oneFp _ => 0#9
  | .oneFp2 _ => 0#9
  | .oneFp6 _ => 0#9
  | .oneFp12 _ => 0#9
  | .ldFp _ g => g
  | .ldFp2 _ g => g
  | .ldFp6 _ g => g
  | .ldFp12 _ g => g
  | .stFp g _ => g
  | .stFp2 g _ => g
  | .stFp6 g _ => g
  | .stFp12 g _ => g
  | .ldg1 _ g => g
  | .ldg2 _ g => g
  | .stg1 g _ => g
  | .stg2 g _ => g
  | .ldsc _ g => g
  | .stsc g _ => g
  | .mlinit _ _ => 0#9
  | .mlstep => 0#9
  | .miller _ _ _ => 0#9
  | .mlrdf _ => 0#9
  | .mlrdt _ => 0#9
  | .mlrdl _ => 0#9
  | .mldone => 0#9
  | .fexp _ _ => 0#9
  | .addFp _ _ _ => 0#9
  | .addFp2 _ _ _ => 0#9
  | .addFp6 _ _ _ => 0#9
  | .addFp12 _ _ _ => 0#9
  | .subFp _ _ _ => 0#9
  | .subFp2 _ _ _ => 0#9
  | .subFp6 _ _ _ => 0#9
  | .subFp12 _ _ _ => 0#9
  | .negFp _ _ => 0#9
  | .negFp2 _ _ => 0#9
  | .negFp6 _ _ => 0#9
  | .negFp12 _ _ => 0#9
  | .mulFp _ _ _ => 0#9
  | .mulFp2 _ _ _ => 0#9
  | .mulFp6 _ _ _ => 0#9
  | .mulFp12 _ _ _ => 0#9
  | .sqrFp _ _ => 0#9
  | .sqrFp2 _ _ => 0#9
  | .sqrFp6 _ _ => 0#9
  | .sqrFp12 _ _ => 0#9
  | .invFp _ _ => 0#9
  | .invFp2 _ _ => 0#9
  | .invFp6 _ _ => 0#9
  | .invFp12 _ _ => 0#9
  | .powFp _ _ _ => 0#9
  | .powFp2 _ _ _ => 0#9
  | .powFp6 _ _ _ => 0#9
  | .powFp12 _ _ _ => 0#9
  | .conjFp2 _ _ => 0#9
  | .conjFp12 _ _ => 0#9
  | .frobFp _ _ imm => imm
  | .frobFp2 _ _ imm => imm
  | .frobFp6 _ _ imm => imm
  | .frobFp12 _ _ imm => imm
  | .mulxi _ _ => 0#9
  | .iszeroFp _ => 0#9
  | .iszeroFp2 _ => 0#9
  | .iszeroFp6 _ => 0#9
  | .iszeroFp12 _ => 0#9
  | .isoneFp _ => 0#9
  | .isoneFp2 _ => 0#9
  | .isoneFp6 _ => 0#9
  | .isoneFp12 _ => 0#9
  | .embFp2 _ _ => 0#9
  | .embFp6 _ _ => 0#9
  | .embFp12 _ _ => 0#9
  | .mkfp2 _ _ _ => 0#9
  | .coefFp _ _ imm => imm
  | .coefFp2 _ _ imm => imm
  | .coefFp6 _ _ imm => imm
  | .coefFp12 _ _ imm => imm
  | .paddG1 _ _ _ => 0#9
  | .paddG2 _ _ _ => 0#9
  | .pdblG1 _ _ => 0#9
  | .pdblG2 _ _ => 0#9
  | .pnegG1 _ _ => 0#9
  | .pnegG2 _ _ => 0#9
  | .pmulG1 _ _ _ => 0#9
  | .pmulG2 _ _ _ => 0#9
  | .ptojG1 _ _ => 0#9
  | .ptojG2 _ _ => 0#9
  | .ptoaG1 _ _ => 0#9
  | .ptoaG2 _ _ => 0#9
  | .isinfG1 _ => 0#9
  | .isinfG2 _ => 0#9
  | .pinfG1 _ => 0#9
  | .pinfG2 _ => 0#9

/-- COEF's index is below its level's coefficient count; nothing else can be ill formed. -/
def Instr.wf (i : Instr) : Bool := decide (i.imm.toNat < i.immBound)

end Sys2Proof
end

