-- ==== Sys2Proof/Decode.lean ====
section
/-! DEFINITION. The decoder, total on every 32-bit word and refusing by name (30_encoding.md R117, R118), and after
it the encoder, written from the same format and opcode map (R111, R115, R116). -/

namespace Sys2Proof

/-- Why a word is ILLEGAL, one name per case (a) to (d) of 30_encoding.md R118. -/
inductive Illegal where
  /-- (a) an unassigned opcode -/
  | opcode
  /-- (b) an ft value the opcode does not admit -/
  | ft
  /-- (c) a nonzero field the format does not use -/
  | unusedField
  /-- (d) COEF with imm9 ≥ the coefficient count of its level -/
  | coefIndex
  deriving DecidableEq, Repr

inductive Decoded where
  | ok (i : Instr)
  | illegal (why : Illegal)
  deriving DecidableEq, Repr

/-- The six fields of every instruction word (R111). -/
structure Fields where
  op : BitVec 6
  ft : BitVec 2
  rd : RegIdx
  rs1 : RegIdx
  rs2 : RegIdx
  imm : Imm9
  deriving DecidableEq, Repr

/-- bits[31:26], [25:24], [23:19], [18:14], [13:9], [8:0] (R111). -/
def fieldsOf (w : Word) : Fields :=
  ⟨w.extractLsb' 26 6, w.extractLsb' 24 2, w.extractLsb' 19 5, w.extractLsb' 14 5, w.extractLsb' 9 5,
   w.extractLsb' 0 9⟩

/-- word = (opcode, ft, rd, rs1, rs2, imm9), from bit 31 down to bit 0 (R111). -/
def wordOf (f : Fields) : Word := f.op ++ f.ft ++ f.rd ++ f.rs1 ++ f.rs2 ++ f.imm

/-! ## The operand formats (R115): every field a format does not use must be zero -/

def Fields.fmtN (f : Fields) (i : Instr) : Decoded :=
  if f.rd = 0 ∧ f.rs1 = 0 ∧ f.rs2 = 0 ∧ f.imm = 0 then .ok i else .illegal .unusedField

def Fields.fmtJ (f : Fields) (mk : Imm9 → Instr) : Decoded :=
  if f.rd = 0 ∧ f.rs1 = 0 ∧ f.rs2 = 0 then .ok (mk f.imm) else .illegal .unusedField

def Fields.fmtRD (f : Fields) (mk : RegIdx → Instr) : Decoded :=
  if f.rs1 = 0 ∧ f.rs2 = 0 ∧ f.imm = 0 then .ok (mk f.rd) else .illegal .unusedField

def Fields.fmtRDS (f : Fields) (mk : RegIdx → RegIdx → Instr) : Decoded :=
  if f.rs2 = 0 ∧ f.imm = 0 then .ok (mk f.rd f.rs1) else .illegal .unusedField

def Fields.fmtRDSS (f : Fields) (mk : RegIdx → RegIdx → RegIdx → Instr) : Decoded :=
  if f.imm = 0 then .ok (mk f.rd f.rs1 f.rs2) else .illegal .unusedField

def Fields.fmtRDSI (f : Fields) (mk : RegIdx → RegIdx → Imm9 → Instr) : Decoded :=
  if f.rs2 = 0 then .ok (mk f.rd f.rs1 f.imm) else .illegal .unusedField

/-- Format RDSI of COEF, with its bound on the coefficient index (R117). -/
def Fields.fmtCoef (f : Fields) (n : Nat) (mk : RegIdx → RegIdx → Imm9 → Instr) : Decoded :=
  if f.rs2 = 0 then
    if f.imm.toNat < n then .ok (mk f.rd f.rs1 f.imm) else .illegal .coefIndex
  else .illegal .unusedField

def Fields.fmtS (f : Fields) (mk : RegIdx → Instr) : Decoded :=
  if f.rd = 0 ∧ f.rs2 = 0 ∧ f.imm = 0 then .ok (mk f.rs1) else .illegal .unusedField

def Fields.fmtSS (f : Fields) (mk : RegIdx → RegIdx → Instr) : Decoded :=
  if f.rd = 0 ∧ f.imm = 0 then .ok (mk f.rs1 f.rs2) else .illegal .unusedField

def Fields.fmtLD (f : Fields) (mk : RegIdx → Imm9 → Instr) : Decoded :=
  if f.rs1 = 0 ∧ f.rs2 = 0 then .ok (mk f.rd f.imm) else .illegal .unusedField

def Fields.fmtST (f : Fields) (mk : Imm9 → RegIdx → Instr) : Decoded :=
  if f.rd = 0 ∧ f.rs2 = 0 then .ok (mk f.imm f.rs1) else .illegal .unusedField

/-! ## The readings of ft (R112) -/

/-- A field-typed opcode: 00 FP, 01 FP2, 10 FP6, 11 FP12. -/
def Fields.byLevel (f : Fields) (fp fp2 fp6 fp12 : Decoded) : Decoded :=
  match f.ft.toNat with
  | 0 => fp
  | 1 => fp2
  | 2 => fp6
  | _ => fp12

/-- A point opcode: 00 G1, 01 G2, 10 and 11 illegal. -/
def Fields.byGroup (f : Fields) (g1 g2 : Decoded) : Decoded :=
  match f.ft.toNat with
  | 0 => g1
  | 1 => g2
  | _ => .illegal .ft

/-- Every other opcode: ft must be 00. -/
def Fields.noFt (f : Fields) (d : Decoded) : Decoded :=
  if f.ft = 0 then d else .illegal .ft

/-! ## The opcode map (R116) -/

def decodeFields (f : Fields) : Decoded :=
  match f.op.toNat with
  | 0x01 => f.noFt (f.fmtN .halt)
  | 0x02 => f.noFt (f.fmtN .nop)
  | 0x03 => f.noFt (f.fmtJ .jmp)
  | 0x04 => f.noFt (f.fmtJ .bt)
  | 0x05 => f.noFt (f.fmtJ .bf)
  | 0x06 => f.noFt (f.fmtRDS .mov)
  | 0x07 => f.noFt (f.fmtRD .clr)
  | 0x08 => f.noFt (f.fmtSS .eq)
  | 0x09 => f.byLevel (f.fmtRD .zeroFp) (f.fmtRD .zeroFp2) (f.fmtRD .zeroFp6) (f.fmtRD .zeroFp12)
  | 0x0A => f.byLevel (f.fmtRD .oneFp) (f.fmtRD .oneFp2) (f.fmtRD .oneFp6) (f.fmtRD .oneFp12)
  | 0x10 => f.byLevel (f.fmtLD .ldFp) (f.fmtLD .ldFp2) (f.fmtLD .ldFp6) (f.fmtLD .ldFp12)
  | 0x11 => f.byLevel (f.fmtST .stFp) (f.fmtST .stFp2) (f.fmtST .stFp6) (f.fmtST .stFp12)
  | 0x12 => f.noFt (f.fmtLD .ldg1)
  | 0x13 => f.noFt (f.fmtLD .ldg2)
  | 0x14 => f.noFt (f.fmtST .stg1)
  | 0x15 => f.noFt (f.fmtST .stg2)
  | 0x16 => f.noFt (f.fmtLD .ldsc)
  | 0x17 => f.noFt (f.fmtST .stsc)
  | 0x18 => f.noFt (f.fmtSS .mlinit)
  | 0x19 => f.noFt (f.fmtN .mlstep)
  | 0x1A => f.noFt (f.fmtRDSS .miller)
  | 0x1B => f.noFt (f.fmtRD .mlrdf)
  | 0x1C => f.noFt (f.fmtRD .mlrdt)
  | 0x1D => f.noFt (f.fmtRD .mlrdl)
  | 0x1E => f.noFt (f.fmtN .mldone)
  | 0x1F => f.noFt (f.fmtRDS .fexp)
  | 0x20 => f.byLevel (f.fmtRDSS .addFp) (f.fmtRDSS .addFp2) (f.fmtRDSS .addFp6) (f.fmtRDSS .addFp12)
  | 0x21 => f.byLevel (f.fmtRDSS .subFp) (f.fmtRDSS .subFp2) (f.fmtRDSS .subFp6) (f.fmtRDSS .subFp12)
  | 0x22 => f.byLevel (f.fmtRDS .negFp) (f.fmtRDS .negFp2) (f.fmtRDS .negFp6) (f.fmtRDS .negFp12)
  | 0x23 => f.byLevel (f.fmtRDSS .mulFp) (f.fmtRDSS .mulFp2) (f.fmtRDSS .mulFp6) (f.fmtRDSS .mulFp12)
  | 0x24 => f.byLevel (f.fmtRDS .sqrFp) (f.fmtRDS .sqrFp2) (f.fmtRDS .sqrFp6) (f.fmtRDS .sqrFp12)
  | 0x25 => f.byLevel (f.fmtRDS .invFp) (f.fmtRDS .invFp2) (f.fmtRDS .invFp6) (f.fmtRDS .invFp12)
  | 0x26 => f.byLevel (f.fmtRDSS .powFp) (f.fmtRDSS .powFp2) (f.fmtRDSS .powFp6) (f.fmtRDSS .powFp12)
  | 0x27 => f.byLevel (.illegal .ft) (f.fmtRDS .conjFp2) (.illegal .ft) (f.fmtRDS .conjFp12)
  | 0x28 => f.byLevel (f.fmtRDSI .frobFp) (f.fmtRDSI .frobFp2) (f.fmtRDSI .frobFp6) (f.fmtRDSI .frobFp12)
  | 0x29 => f.noFt (f.fmtRDS .mulxi)
  | 0x2A => f.byLevel (f.fmtS .iszeroFp) (f.fmtS .iszeroFp2) (f.fmtS .iszeroFp6) (f.fmtS .iszeroFp12)
  | 0x2B => f.byLevel (f.fmtS .isoneFp) (f.fmtS .isoneFp2) (f.fmtS .isoneFp6) (f.fmtS .isoneFp12)
  | 0x2C => f.byLevel (.illegal .ft) (f.fmtRDS .embFp2) (f.fmtRDS .embFp6) (f.fmtRDS .embFp12)
  | 0x2D => f.noFt (f.fmtRDSS .mkfp2)
  | 0x2E => f.byLevel (f.fmtCoef 1 .coefFp) (f.fmtCoef 2 .coefFp2) (f.fmtCoef 6 .coefFp6) (f.fmtCoef 12 .coefFp12)
  | 0x30 => f.byGroup (f.fmtRDSS .paddG1) (f.fmtRDSS .paddG2)
  | 0x31 => f.byGroup (f.fmtRDS .pdblG1) (f.fmtRDS .pdblG2)
  | 0x32 => f.byGroup (f.fmtRDS .pnegG1) (f.fmtRDS .pnegG2)
  | 0x33 => f.byGroup (f.fmtRDSS .pmulG1) (f.fmtRDSS .pmulG2)
  | 0x34 => f.byGroup (f.fmtRDS .ptojG1) (f.fmtRDS .ptojG2)
  | 0x35 => f.byGroup (f.fmtRDS .ptoaG1) (f.fmtRDS .ptoaG2)
  | 0x36 => f.byGroup (f.fmtS .isinfG1) (f.fmtS .isinfG2)
  | 0x37 => f.byGroup (f.fmtRD .pinfG1) (f.fmtRD .pinfG2)
  | _ => .illegal .opcode

/-- `decode(word)` (30_encoding.md R117). -/
def decode (w : Word) : Decoded := decodeFields (fieldsOf w)

/-! ## The encoder -/

/-- The fields of an instruction's word: opcode and ft from the map (R116), operands from its format (R115). -/
def Instr.fields : Instr → Fields
  | .halt => ⟨0x01#6, 0#2, 0#5, 0#5, 0#5, 0#9⟩
  | .nop => ⟨0x02#6, 0#2, 0#5, 0#5, 0#5, 0#9⟩
  | .jmp target => ⟨0x03#6, 0#2, 0#5, 0#5, 0#5, target⟩
  | .bt target => ⟨0x04#6, 0#2, 0#5, 0#5, 0#5, target⟩
  | .bf target => ⟨0x05#6, 0#2, 0#5, 0#5, 0#5, target⟩
  | .mov rd rs1 => ⟨0x06#6, 0#2, rd, rs1, 0#5, 0#9⟩
  | .clr rd => ⟨0x07#6, 0#2, rd, 0#5, 0#5, 0#9⟩
  | .eq rs1 rs2 => ⟨0x08#6, 0#2, 0#5, rs1, rs2, 0#9⟩
  | .zeroFp rd => ⟨0x09#6, 0#2, rd, 0#5, 0#5, 0#9⟩
  | .zeroFp2 rd => ⟨0x09#6, 1#2, rd, 0#5, 0#5, 0#9⟩
  | .zeroFp6 rd => ⟨0x09#6, 2#2, rd, 0#5, 0#5, 0#9⟩
  | .zeroFp12 rd => ⟨0x09#6, 3#2, rd, 0#5, 0#5, 0#9⟩
  | .oneFp rd => ⟨0x0A#6, 0#2, rd, 0#5, 0#5, 0#9⟩
  | .oneFp2 rd => ⟨0x0A#6, 1#2, rd, 0#5, 0#5, 0#9⟩
  | .oneFp6 rd => ⟨0x0A#6, 2#2, rd, 0#5, 0#5, 0#9⟩
  | .oneFp12 rd => ⟨0x0A#6, 3#2, rd, 0#5, 0#5, 0#9⟩
  | .ldFp rd g => ⟨0x10#6, 0#2, rd, 0#5, 0#5, g⟩
  | .ldFp2 rd g => ⟨0x10#6, 1#2, rd, 0#5, 0#5, g⟩
  | .ldFp6 rd g => ⟨0x10#6, 2#2, rd, 0#5, 0#5, g⟩
  | .ldFp12 rd g => ⟨0x10#6, 3#2, rd, 0#5, 0#5, g⟩
  | .stFp g rs1 => ⟨0x11#6, 0#2, 0#5, rs1, 0#5, g⟩
  | .stFp2 g rs1 => ⟨0x11#6, 1#2, 0#5, rs1, 0#5, g⟩
  | .stFp6 g rs1 => ⟨0x11#6, 2#2, 0#5, rs1, 0#5, g⟩
  | .stFp12 g rs1 => ⟨0x11#6, 3#2, 0#5, rs1, 0#5, g⟩
  | .ldg1 rd g => ⟨0x12#6, 0#2, rd, 0#5, 0#5, g⟩
  | .ldg2 rd g => ⟨0x13#6, 0#2, rd, 0#5, 0#5, g⟩
  | .stg1 g rs1 => ⟨0x14#6, 0#2, 0#5, rs1, 0#5, g⟩
  | .stg2 g rs1 => ⟨0x15#6, 0#2, 0#5, rs1, 0#5, g⟩
  | .ldsc rd g => ⟨0x16#6, 0#2, rd, 0#5, 0#5, g⟩
  | .stsc g rs1 => ⟨0x17#6, 0#2, 0#5, rs1, 0#5, g⟩
  | .mlinit rs1 rs2 => ⟨0x18#6, 0#2, 0#5, rs1, rs2, 0#9⟩
  | .mlstep => ⟨0x19#6, 0#2, 0#5, 0#5, 0#5, 0#9⟩
  | .miller rd rs1 rs2 => ⟨0x1A#6, 0#2, rd, rs1, rs2, 0#9⟩
  | .mlrdf rd => ⟨0x1B#6, 0#2, rd, 0#5, 0#5, 0#9⟩
  | .mlrdt rd => ⟨0x1C#6, 0#2, rd, 0#5, 0#5, 0#9⟩
  | .mlrdl rd => ⟨0x1D#6, 0#2, rd, 0#5, 0#5, 0#9⟩
  | .mldone => ⟨0x1E#6, 0#2, 0#5, 0#5, 0#5, 0#9⟩
  | .fexp rd rs1 => ⟨0x1F#6, 0#2, rd, rs1, 0#5, 0#9⟩
  | .addFp rd rs1 rs2 => ⟨0x20#6, 0#2, rd, rs1, rs2, 0#9⟩
  | .addFp2 rd rs1 rs2 => ⟨0x20#6, 1#2, rd, rs1, rs2, 0#9⟩
  | .addFp6 rd rs1 rs2 => ⟨0x20#6, 2#2, rd, rs1, rs2, 0#9⟩
  | .addFp12 rd rs1 rs2 => ⟨0x20#6, 3#2, rd, rs1, rs2, 0#9⟩
  | .subFp rd rs1 rs2 => ⟨0x21#6, 0#2, rd, rs1, rs2, 0#9⟩
  | .subFp2 rd rs1 rs2 => ⟨0x21#6, 1#2, rd, rs1, rs2, 0#9⟩
  | .subFp6 rd rs1 rs2 => ⟨0x21#6, 2#2, rd, rs1, rs2, 0#9⟩
  | .subFp12 rd rs1 rs2 => ⟨0x21#6, 3#2, rd, rs1, rs2, 0#9⟩
  | .negFp rd rs1 => ⟨0x22#6, 0#2, rd, rs1, 0#5, 0#9⟩
  | .negFp2 rd rs1 => ⟨0x22#6, 1#2, rd, rs1, 0#5, 0#9⟩
  | .negFp6 rd rs1 => ⟨0x22#6, 2#2, rd, rs1, 0#5, 0#9⟩
  | .negFp12 rd rs1 => ⟨0x22#6, 3#2, rd, rs1, 0#5, 0#9⟩
  | .mulFp rd rs1 rs2 => ⟨0x23#6, 0#2, rd, rs1, rs2, 0#9⟩
  | .mulFp2 rd rs1 rs2 => ⟨0x23#6, 1#2, rd, rs1, rs2, 0#9⟩
  | .mulFp6 rd rs1 rs2 => ⟨0x23#6, 2#2, rd, rs1, rs2, 0#9⟩
  | .mulFp12 rd rs1 rs2 => ⟨0x23#6, 3#2, rd, rs1, rs2, 0#9⟩
  | .sqrFp rd rs1 => ⟨0x24#6, 0#2, rd, rs1, 0#5, 0#9⟩
  | .sqrFp2 rd rs1 => ⟨0x24#6, 1#2, rd, rs1, 0#5, 0#9⟩
  | .sqrFp6 rd rs1 => ⟨0x24#6, 2#2, rd, rs1, 0#5, 0#9⟩
  | .sqrFp12 rd rs1 => ⟨0x24#6, 3#2, rd, rs1, 0#5, 0#9⟩
  | .invFp rd rs1 => ⟨0x25#6, 0#2, rd, rs1, 0#5, 0#9⟩
  | .invFp2 rd rs1 => ⟨0x25#6, 1#2, rd, rs1, 0#5, 0#9⟩
  | .invFp6 rd rs1 => ⟨0x25#6, 2#2, rd, rs1, 0#5, 0#9⟩
  | .invFp12 rd rs1 => ⟨0x25#6, 3#2, rd, rs1, 0#5, 0#9⟩
  | .powFp rd rs1 rs2 => ⟨0x26#6, 0#2, rd, rs1, rs2, 0#9⟩
  | .powFp2 rd rs1 rs2 => ⟨0x26#6, 1#2, rd, rs1, rs2, 0#9⟩
  | .powFp6 rd rs1 rs2 => ⟨0x26#6, 2#2, rd, rs1, rs2, 0#9⟩
  | .powFp12 rd rs1 rs2 => ⟨0x26#6, 3#2, rd, rs1, rs2, 0#9⟩
  | .conjFp2 rd rs1 => ⟨0x27#6, 1#2, rd, rs1, 0#5, 0#9⟩
  | .conjFp12 rd rs1 => ⟨0x27#6, 3#2, rd, rs1, 0#5, 0#9⟩
  | .frobFp rd rs1 imm => ⟨0x28#6, 0#2, rd, rs1, 0#5, imm⟩
  | .frobFp2 rd rs1 imm => ⟨0x28#6, 1#2, rd, rs1, 0#5, imm⟩
  | .frobFp6 rd rs1 imm => ⟨0x28#6, 2#2, rd, rs1, 0#5, imm⟩
  | .frobFp12 rd rs1 imm => ⟨0x28#6, 3#2, rd, rs1, 0#5, imm⟩
  | .mulxi rd rs1 => ⟨0x29#6, 0#2, rd, rs1, 0#5, 0#9⟩
  | .iszeroFp rs1 => ⟨0x2A#6, 0#2, 0#5, rs1, 0#5, 0#9⟩
  | .iszeroFp2 rs1 => ⟨0x2A#6, 1#2, 0#5, rs1, 0#5, 0#9⟩
  | .iszeroFp6 rs1 => ⟨0x2A#6, 2#2, 0#5, rs1, 0#5, 0#9⟩
  | .iszeroFp12 rs1 => ⟨0x2A#6, 3#2, 0#5, rs1, 0#5, 0#9⟩
  | .isoneFp rs1 => ⟨0x2B#6, 0#2, 0#5, rs1, 0#5, 0#9⟩
  | .isoneFp2 rs1 => ⟨0x2B#6, 1#2, 0#5, rs1, 0#5, 0#9⟩
  | .isoneFp6 rs1 => ⟨0x2B#6, 2#2, 0#5, rs1, 0#5, 0#9⟩
  | .isoneFp12 rs1 => ⟨0x2B#6, 3#2, 0#5, rs1, 0#5, 0#9⟩
  | .embFp2 rd rs1 => ⟨0x2C#6, 1#2, rd, rs1, 0#5, 0#9⟩
  | .embFp6 rd rs1 => ⟨0x2C#6, 2#2, rd, rs1, 0#5, 0#9⟩
  | .embFp12 rd rs1 => ⟨0x2C#6, 3#2, rd, rs1, 0#5, 0#9⟩
  | .mkfp2 rd rs1 rs2 => ⟨0x2D#6, 0#2, rd, rs1, rs2, 0#9⟩
  | .coefFp rd rs1 imm => ⟨0x2E#6, 0#2, rd, rs1, 0#5, imm⟩
  | .coefFp2 rd rs1 imm => ⟨0x2E#6, 1#2, rd, rs1, 0#5, imm⟩
  | .coefFp6 rd rs1 imm => ⟨0x2E#6, 2#2, rd, rs1, 0#5, imm⟩
  | .coefFp12 rd rs1 imm => ⟨0x2E#6, 3#2, rd, rs1, 0#5, imm⟩
  | .paddG1 rd rs1 rs2 => ⟨0x30#6, 0#2, rd, rs1, rs2, 0#9⟩
  | .paddG2 rd rs1 rs2 => ⟨0x30#6, 1#2, rd, rs1, rs2, 0#9⟩
  | .pdblG1 rd rs1 => ⟨0x31#6, 0#2, rd, rs1, 0#5, 0#9⟩
  | .pdblG2 rd rs1 => ⟨0x31#6, 1#2, rd, rs1, 0#5, 0#9⟩
  | .pnegG1 rd rs1 => ⟨0x32#6, 0#2, rd, rs1, 0#5, 0#9⟩
  | .pnegG2 rd rs1 => ⟨0x32#6, 1#2, rd, rs1, 0#5, 0#9⟩
  | .pmulG1 rd rs1 rs2 => ⟨0x33#6, 0#2, rd, rs1, rs2, 0#9⟩
  | .pmulG2 rd rs1 rs2 => ⟨0x33#6, 1#2, rd, rs1, rs2, 0#9⟩
  | .ptojG1 rd rs1 => ⟨0x34#6, 0#2, rd, rs1, 0#5, 0#9⟩
  | .ptojG2 rd rs1 => ⟨0x34#6, 1#2, rd, rs1, 0#5, 0#9⟩
  | .ptoaG1 rd rs1 => ⟨0x35#6, 0#2, rd, rs1, 0#5, 0#9⟩
  | .ptoaG2 rd rs1 => ⟨0x35#6, 1#2, rd, rs1, 0#5, 0#9⟩
  | .isinfG1 rs1 => ⟨0x36#6, 0#2, 0#5, rs1, 0#5, 0#9⟩
  | .isinfG2 rs1 => ⟨0x36#6, 1#2, 0#5, rs1, 0#5, 0#9⟩
  | .pinfG1 rd => ⟨0x37#6, 0#2, rd, 0#5, 0#5, 0#9⟩
  | .pinfG2 rd => ⟨0x37#6, 1#2, rd, 0#5, 0#5, 0#9⟩

/-- The word of an instruction. -/
def encode (i : Instr) : Word := wordOf i.fields

/-! ## The opcode table's numbering -/

/-- The instruction whose bits, numbered as spec/opcode_table.json numbers them, are `w`. Every instruction is one
32-bit word (R110) and the table numbers its bits as the word's, so the bits are the word. -/
def decodeTableWord (nbits w : Nat) : Option Instr :=
  if nbits ≤ 32 ∧ w < 2 ^ 32 then
    match decode (BitVec.ofNat 32 w) with
    | .ok i => some i
    | .illegal _ => none
  else none

end Sys2Proof
end

