-- ==== Sys2Proof/Machine/Fetch.lean ====
section
/-! DEFINITION. Fetch and decode, the first half of the engine's cycle (60_exceptions.md R486). -/

namespace Sys2Proof.Machine

/-- The instruction at PC, or FETCH_BOUNDS (R481) or ILLEGAL_INSN (R482). -/
def fetch (s : State) : Except Exc Instr :=
  if s.pc.toNat < Config.imemWords then
    match decode (imemWord s s.pc.toNat) with
    | .ok i => .ok i
    | .illegal _ => .error .illegalInsn
  else .error (.fetchBounds s.pc)

end Sys2Proof.Machine
end

