-- ==== Sys2Proof/Machine/HostIf.lean ====
section
/-! DEFINITION. The host's side: the MMIO window (60_exceptions.md R500 to R504), the control and status registers'
views (10_state.md R43 to R51), both resets (70_reset_and_hazards.md R530, R531) and the interrupt line (R496). -/

namespace Sys2Proof.Machine

/-! ## The interrupt line (R496) -/

/-- IRQ = STATUS.IRQ_PEND AND CTRL.IRQ_EN. -/
def irqLine (s : State) : Bool := s.irqPend && s.irqEn

/-! ## Resets -/

/-- Soft reset (R531, R532): everything but IMEM and DMEM. The model's own fields are kept. -/
def softReset (s : State) : State :=
  { State.reset with imem := s.imem, dmem := s.dmem, hostQ := s.hostQ, rdata := s.rdata, epoch := s.epoch }

/-- Power-on reset (R530, R532): everything, and both memories take a new POWERON_MEM (log entries 1 and 13). What the
host does next is not the CORE's state and stays. -/
def powerOnReset (s : State) : State :=
  { State.reset with hostQ := s.hostQ, rdata := s.rdata, epoch := s.epoch + 1 }

/-! ## START (R503) and the writable registers -/

/-- A START that is not overridden by SRESET. -/
def startEngine (s : State) : State :=
  if s.run = .busy then { s with hostErr := true }
  else { s with run := .busy, cause := 0, fpc := 0, finsn := 0, finfo := 0 }

/-- A host write of `v` to CTRL, in the order of R504. -/
def writeCtrl (v : Word) (s : State) : State :=
  let s1 := { s with irqEn := v.getLsbD 2 }
  if v.getLsbD 1 then softReset s1
  else if v.getLsbD 0 then startEngine s1
  else s1

/-- A host write to STATUS: write-1-to-clear of IRQ_PEND (bit 3) and HOSTERR (bit 4) (10_state.md R46). -/
def writeStatus (v : Word) (s : State) : State :=
  { s with
    irqPend := s.irqPend && !v.getLsbD 3
    hostErr := s.hostErr && !v.getLsbD 4 }

/-! ## Register views -/

/-- STATE's code (10_state.md R44). -/
def RunState.code : RunState → Nat
  | .idle => 0
  | .busy => 1
  | .halted => 2
  | .fault => 3

/-- STATUS as the host reads it (10_state.md R46): ML_ST in [7:5], HOSTERR, IRQ_PEND, FLAG, STATE in [1:0]. -/
def statusWord (s : State) : Word :=
  (0#24 ++ BitVec.ofNat 3 s.ml.st.code ++ BitVec.ofBool s.hostErr ++ BitVec.ofBool s.irqPend ++
    BitVec.ofBool s.flag ++ BitVec.ofNat 2 s.run.code : BitVec 32)

/-- CTRL as the host reads it (R504): IRQ_EN in bit 2 and 0 elsewhere. -/
def ctrlWord (s : State) : Word := (0#29 ++ BitVec.ofBool s.irqEn ++ 0#2 : BitVec 32)

/-! ## DMEM as host words (20_memory.md R83) -/

/-- The k-th 32-bit word of DMEM, big-endian. -/
def dmemHostWord (s : State) (k : Nat) : Word := BitVec.ofNat 32 (beValue (readBytes s (4 * k) 4))

/-- Write the k-th 32-bit word of DMEM, big-endian. -/
def setDmemHostWord (m : Dmem) (k : Nat) (v : Word) : Dmem := Memory.setMany m (4 * k) (beBytes 4 v.toNat)

/-! ## The window (R500) -/

/-- What a byte offset names; bits 1:0 are ignored (20_memory.md R84). -/
def mmioOf (off : BitVec 15) : Mmio :=
  let w := off.toNat / 4
  if w = 0 then .id
  else if w = 1 then .ctrl
  else if w = 2 then .status
  else if w = 3 then .cause
  else if w = 4 then .fpc
  else if w = 5 then .finsn
  else if w = 6 then .pc
  else if w = 7 then .finfo
  else if 0x400 ≤ w ∧ w < 0x600 then .imem (w - 0x400)
  else if 0x1000 ≤ w then .dmem (w - 0x1000)
  else .reserved

/-- IMEM, DMEM and PC: what a host may not touch while BUSY (R502). -/
def Mmio.guarded : Mmio → Bool
  | .pc => true
  | .imem _ => true
  | .dmem _ => true
  | .id => false
  | .ctrl => false
  | .status => false
  | .cause => false
  | .fpc => false
  | .finsn => false
  | .finfo => false
  | .reserved => false

/-- The word a served host read returns. No read has a side effect (R500). -/
def mmioRead (s : State) : Mmio → Word
  | .id => Config.idWord
  | .ctrl => ctrlWord s
  | .status => statusWord s
  | .cause => s.cause.setWidth 32
  | .fpc => s.fpc.setWidth 32
  | .finsn => s.finsn
  | .pc => s.pc.setWidth 32
  | .finfo => s.finfo
  | .imem k => imemWord s k
  | .dmem k => dmemHostWord s k
  | .reserved => 0

/-- The effect of a served host write. Writes to read-only registers and reserved offsets are ignored (R500). -/
def mmioWrite (v : Word) (s : State) : Mmio → State
  | .id => s
  | .ctrl => writeCtrl v s
  | .status => writeStatus v s
  | .cause => s
  | .fpc => s
  | .finsn => s
  | .pc => { s with pc := v.setWidth 10 }
  | .finfo => s
  | .imem k => { s with imem := Memory.set s.imem k v }
  | .dmem k => { s with dmem := setDmemHostWord s.dmem k v }
  | .reserved => s

/-- A host read (R500, R502): refused reads return 0 and set HOSTERR. -/
def hostRead (off : BitVec 15) (s : State) : State :=
  let m := mmioOf off
  if s.run = .busy ∧ m.guarded = true then { s with rdata := 0, hostErr := true }
  else { s with rdata := mmioRead s m }

/-- A host write (R500, R502): refused writes are dropped and set HOSTERR. -/
def hostWrite (off : BitVec 15) (v : Word) (s : State) : State :=
  let m := mmioOf off
  if s.run = .busy ∧ m.guarded = true then { s with hostErr := true }
  else mmioWrite v s m

end Sys2Proof.Machine
end

