-- ==== Sys2Proof/Machine/Step.lean ====
section
/-! DEFINITION. One step of the machine: the host's next action if one is pending, else one cycle of the engine
(60_exceptions.md R486, R501); and where step fetches its next instruction. -/

namespace Sys2Proof.Machine

/-- `engine_step` (R486): enabled only while STATE = BUSY; otherwise all state is kept (R510, log entry 5). -/
def engineStep (s : State) : Host.Outcome State Fault Refusal :=
  if s.run = .busy then
    match fetch s with
    | .ok i => exec i s
    | .error e => .next (trap e s)
  else .next s

/-- One transition. Host accesses are transitions of their own and fall between engine steps (R501): the head of
`hostQ` says whether the host or the engine moves, and with nothing pending the engine does (log entry 4). -/
def step (s : State) : Host.Outcome State Fault Refusal :=
  match s.hostQ with
  | [] => engineStep s
  | .pass :: q => engineStep { s with hostQ := q }
  | .read off :: q => .next (hostRead off { s with hostQ := q })
  | .write off v :: q => .next (hostWrite off v { s with hostQ := q })
  | .powerOn :: q => .next (powerOnReset { s with hostQ := q })

/-- `s` with the instruction whose bits are `w` at the PC, no host action pending and the engine BUSY, so that the very
next step runs it: what a host does by writing IMEM, PC and START (R505, log entry 10). -/
def State.withFetchWord (s : State) (_nbits w : Nat) : State :=
  let pc := if s.pc.toNat < Config.imemWords then s.pc else 0
  { s with pc := pc, imem := Memory.set s.imem pc.toNat (BitVec.ofNat 32 w), run := .busy, hostQ := [] }

end Sys2Proof.Machine
end

