-- ==== Sys2Proof/Safety.lean ====
section
/-! DEFINITION. The terms claims use: the invariants of the machine, what each instruction may read and write as the
spec's access rules give it, the trap entry, and the arithmetic relations (sum of points, line through points) written
without an inverse. Nothing here is called by the machine. -/

namespace Sys2Proof.Machine

/-! ## Invariants -/

/-- The value lies in the domain its tag names (10_state.md R31, R32). An Fp coefficient is reduced by its type. -/
def RegVal.inDomain : RegVal → Bool
  | .empty => true
  | .fp _ => true
  | .fp2 _ => true
  | .fp6 _ => true
  | .fp12 _ => true
  | .g1 p => g1OnCurve p
  | .g2 p => g2OnCurve p
  | .g1j p => g1OnCurve p
  | .g2j p => g2OnCurve p
  | .sc _ => true

/-- No register and no field of the Miller unit holds a point off its curve (10_state.md R32, R40). -/
def State.pointsOnCurve (s : State) : Prop :=
  (∀ r : RegIdx, (s.reg r).inDomain = true) ∧
  g2OnCurve s.ml.t = true ∧ g2OnCurve s.ml.q = true ∧ g1OnCurve s.ml.p = true

/-- Both memories have their canonical form: rising addresses below the memory's size (log entry 2). -/
def State.memoriesCanonical (s : State) : Prop :=
  Memory.wf Config.imemWords s.imem = true ∧ Memory.wf Config.dmemBytes s.dmem = true

/-- ML_Q and ML_P are finite while a loop is in progress (10_state.md R40), and ML_I is 0 once the LOOP steps are over
(48_pairing.md R425). -/
def Miller.inProgressOk (u : Miller) : Prop :=
  ((u.st = .loop ∨ u.st = .frob1 ∨ u.st = .frob2) → u.q ≠ .inf ∧ u.p ≠ .inf) ∧
  ((u.st = .frob1 ∨ u.st = .frob2) → u.i = 0)

/-- CAUSE, FPC, FINSN and FINFO hold an exception exactly in FAULT: START clears them and only a trap sets them
(60_exceptions.md R480, R492, R503, R512). -/
def State.statusConsistent (s : State) : Prop :=
  (s.run = .fault → 1 ≤ s.cause.toNat ∧ s.cause.toNat ≤ 10) ∧
  (s.run ≠ .fault → s.cause = 0 ∧ s.fpc = 0 ∧ s.finsn = 0 ∧ s.finfo = 0)

/-- Every row of the reset table (70_reset_and_hazards.md R532) but the memories. -/
def State.atReset (s : State) : Prop :=
  (∀ r : RegIdx, s.reg r = .empty) ∧ s.flag = false ∧ s.pc = 0 ∧ s.run = .idle ∧ s.ml.st = .idle ∧ s.ml.i = 0 ∧
  s.irqEn = false ∧ s.irqPend = false ∧ s.hostErr = false ∧ s.cause = 0 ∧ s.fpc = 0 ∧ s.finsn = 0 ∧ s.finfo = 0 ∧
  mmioRead s .id = 0x424E3534#32 ∧ mmioRead s .ctrl = 0 ∧ mmioRead s .status = 0 ∧ irqLine s = false

/-- Two states that differ at most in the Miller fields the spec leaves unspecified while ML_ST = IDLE
(10_state.md R40, 70_reset_and_hazards.md R532). -/
def State.sameObservable (s s' : State) : Prop :=
  s' = { s with ml := s'.ml } ∧ s'.ml.st = s.ml.st ∧ s'.ml.i = s.ml.i ∧ (s.ml.st ≠ .idle → s'.ml = s.ml)

/-! ## The trap entry (60_exceptions.md R492) -/

/-- The state after an exception with cause code `c` and info `info` at `s`. -/
def State.faulted (s : State) (c : BitVec 5) (info : Word) : State :=
  { s with
    run := .fault
    cause := c
    fpc := s.pc
    finsn := if s.pc.toNat < 512 then imemWord s s.pc.toNat else 0
    finfo := info
    irqPend := true }

/-! ## Encoding tables, read a second time from 30_encoding.md -/

/-- The ten formats (R115). -/
inductive Format where
  | n | j | rd | rds | rdss | rdsi | s | ss | ld | st
  deriving DecidableEq, Repr

/-- The opcode map's formats (R116); nothing for the opcodes of R118 (a). -/
def formatOf (op : Nat) : Option Format :=
  if op = 0x01 ∨ op = 0x02 ∨ op = 0x19 ∨ op = 0x1E then some .n
  else if op = 0x03 ∨ op = 0x04 ∨ op = 0x05 then some .j
  else if op = 0x07 ∨ op = 0x09 ∨ op = 0x0A ∨ op = 0x1B ∨ op = 0x1C ∨ op = 0x1D ∨ op = 0x37 then some .rd
  else if op = 0x06 ∨ op = 0x1F ∨ op = 0x22 ∨ op = 0x24 ∨ op = 0x25 ∨ op = 0x27 ∨ op = 0x29 ∨ op = 0x2C ∨
      op = 0x31 ∨ op = 0x32 ∨ op = 0x34 ∨ op = 0x35 then some .rds
  else if op = 0x1A ∨ op = 0x20 ∨ op = 0x21 ∨ op = 0x23 ∨ op = 0x26 ∨ op = 0x2D ∨ op = 0x30 ∨ op = 0x33 then
    some .rdss
  else if op = 0x28 ∨ op = 0x2E then some .rdsi
  else if op = 0x2A ∨ op = 0x2B ∨ op = 0x36 then some .s
  else if op = 0x08 ∨ op = 0x18 then some .ss
  else if op = 0x10 ∨ op = 0x12 ∨ op = 0x13 ∨ op = 0x16 then some .ld
  else if op = 0x11 ∨ op = 0x14 ∨ op = 0x15 ∨ op = 0x17 then some .st
  else none

/-- The ft values an opcode admits (R112). -/
def ftAdmitted (op ft : Nat) : Bool :=
  if op = 0x27 then decide (ft = 1 ∨ ft = 3)
  else if op = 0x2C then decide (ft ≠ 0)
  else if op = 0x09 ∨ op = 0x0A ∨ op = 0x10 ∨ op = 0x11 ∨ (0x20 ≤ op ∧ op ≤ 0x26) ∨ op = 0x28 ∨ op = 0x2A ∨
      op = 0x2B ∨ op = 0x2E then true
  else if 0x30 ≤ op ∧ op ≤ 0x37 then decide (ft ≤ 1)
  else decide (ft = 0)

/-- Every field the format does not use is zero (R115). -/
def Format.unusedZero (rd rs1 rs2 imm : Nat) : Format → Prop
  | .n => rd = 0 ∧ rs1 = 0 ∧ rs2 = 0 ∧ imm = 0
  | .j => rd = 0 ∧ rs1 = 0 ∧ rs2 = 0
  | .rd => rs1 = 0 ∧ rs2 = 0 ∧ imm = 0
  | .rds => rs2 = 0 ∧ imm = 0
  | .rdss => imm = 0
  | .rdsi => rs2 = 0
  | .s => rd = 0 ∧ rs2 = 0 ∧ imm = 0
  | .ss => rd = 0 ∧ imm = 0
  | .ld => rs1 = 0 ∧ rs2 = 0
  | .st => rd = 0 ∧ rs2 = 0

/-- N(ft) of R117. -/
def coefCount (ft : Nat) : Nat := if ft = 0 then 1 else if ft = 1 then 2 else if ft = 2 then 6 else 12

/-- The word is illegal: one of the cases (a) to (d) of R118, on the fields of R111. -/
def IllegalWord (w : Word) : Prop :=
  let op := w.toNat / 2 ^ 26
  let ft := w.toNat / 2 ^ 24 % 4
  let rd := w.toNat / 2 ^ 19 % 32
  let rs1 := w.toNat / 2 ^ 14 % 32
  let rs2 := w.toNat / 2 ^ 9 % 32
  let imm := w.toNat % 512
  match formatOf op with
  | none => True
  | some fmt => ftAdmitted op ft = false ∨ ¬ fmt.unusedZero rd rs1 rs2 imm ∨ (op = 0x2E ∧ coefCount ft ≤ imm)

/-! ## What an instruction may read and write -/

/-- An instruction's accesses: its source list with the accepted tags, in the order of R158; the register it writes
(10_state.md R36); whether it writes FLAG (R37) and the Miller unit (R41); the granules it loads from or stores to
(20_memory.md R85); and where it may jump, with the FLAG value it asks for (R38). -/
structure Access where
  sources : List (RegIdx × List Tag) := []
  dest : Option RegIdx := none
  flag : Bool := false
  miller : Bool := false
  loaded : Option (Imm9 × Nat) := none
  stored : Option (Imm9 × Nat) := none
  target : Option Imm9 := none
  cond : Option Bool := none

/-- Every tag but EMPTY. -/
def valueTags : List Tag := [.fp, .fp2, .fp6, .fp12, .g1, .g2, .g1j, .g2j, .sc]

/-- The accesses of each instruction, from the rules of 40_control.md to 49_final_exp.md. EQ's second operand must also
be of the first one's kind, which no list of tags can say. -/
def accessOf : Instr → Access
  | .halt => {}
  | .nop => {}
  | .jmp target => { target := some target }
  | .bt target => { target := some target, cond := some true }
  | .bf target => { target := some target, cond := some false }
  | .mov rd rs1 => { sources := [(rs1, valueTags)], dest := some rd }
  | .clr rd => { dest := some rd }
  | .eq rs1 rs2 => { sources := [(rs1, valueTags), (rs2, valueTags)], flag := true }
  | .zeroFp rd => { dest := some rd }
  | .zeroFp2 rd => { dest := some rd }
  | .zeroFp6 rd => { dest := some rd }
  | .zeroFp12 rd => { dest := some rd }
  | .oneFp rd => { dest := some rd }
  | .oneFp2 rd => { dest := some rd }
  | .oneFp6 rd => { dest := some rd }
  | .oneFp12 rd => { dest := some rd }
  | .ldFp rd g => { dest := some rd, loaded := some (g, 1) }
  | .ldFp2 rd g => { dest := some rd, loaded := some (g, 2) }
  | .ldFp6 rd g => { dest := some rd, loaded := some (g, 6) }
  | .ldFp12 rd g => { dest := some rd, loaded := some (g, 12) }
  | .stFp g rs1 => { sources := [(rs1, [.fp])], stored := some (g, 1) }
  | .stFp2 g rs1 => { sources := [(rs1, [.fp2])], stored := some (g, 2) }
  | .stFp6 g rs1 => { sources := [(rs1, [.fp6])], stored := some (g, 6) }
  | .stFp12 g rs1 => { sources := [(rs1, [.fp12])], stored := some (g, 12) }
  | .ldg1 rd g => { dest := some rd, loaded := some (g, 2) }
  | .ldg2 rd g => { dest := some rd, loaded := some (g, 4) }
  | .stg1 g rs1 => { sources := [(rs1, [.g1])], stored := some (g, 2) }
  | .stg2 g rs1 => { sources := [(rs1, [.g2])], stored := some (g, 4) }
  | .ldsc rd g => { dest := some rd, loaded := some (g, 1) }
  | .stsc g rs1 => { sources := [(rs1, [.sc])], stored := some (g, 1) }
  | .mlinit rs1 rs2 => { sources := [(rs1, [.g2, .g2j]), (rs2, [.g1, .g1j])], miller := true }
  | .mlstep => { miller := true }
  | .miller rd rs1 rs2 => { sources := [(rs1, [.g2, .g2j]), (rs2, [.g1, .g1j])], dest := some rd, miller := true }
  | .mlrdf rd => { dest := some rd }
  | .mlrdt rd => { dest := some rd }
  | .mlrdl rd => { dest := some rd }
  | .mldone => { flag := true }
  | .fexp rd rs1 => { sources := [(rs1, [.fp12])], dest := some rd }
  | .addFp rd rs1 rs2 => { sources := [(rs1, [.fp]), (rs2, [.fp])], dest := some rd }
  | .addFp2 rd rs1 rs2 => { sources := [(rs1, [.fp2]), (rs2, [.fp2])], dest := some rd }
  | .addFp6 rd rs1 rs2 => { sources := [(rs1, [.fp6]), (rs2, [.fp6])], dest := some rd }
  | .addFp12 rd rs1 rs2 => { sources := [(rs1, [.fp12]), (rs2, [.fp12])], dest := some rd }
  | .subFp rd rs1 rs2 => { sources := [(rs1, [.fp]), (rs2, [.fp])], dest := some rd }
  | .subFp2 rd rs1 rs2 => { sources := [(rs1, [.fp2]), (rs2, [.fp2])], dest := some rd }
  | .subFp6 rd rs1 rs2 => { sources := [(rs1, [.fp6]), (rs2, [.fp6])], dest := some rd }
  | .subFp12 rd rs1 rs2 => { sources := [(rs1, [.fp12]), (rs2, [.fp12])], dest := some rd }
  | .negFp rd rs1 => { sources := [(rs1, [.fp])], dest := some rd }
  | .negFp2 rd rs1 => { sources := [(rs1, [.fp2])], dest := some rd }
  | .negFp6 rd rs1 => { sources := [(rs1, [.fp6])], dest := some rd }
  | .negFp12 rd rs1 => { sources := [(rs1, [.fp12])], dest := some rd }
  | .mulFp rd rs1 rs2 => { sources := [(rs1, [.fp]), (rs2, [.fp])], dest := some rd }
  | .mulFp2 rd rs1 rs2 => { sources := [(rs1, [.fp2]), (rs2, [.fp2])], dest := some rd }
  | .mulFp6 rd rs1 rs2 => { sources := [(rs1, [.fp6]), (rs2, [.fp6])], dest := some rd }
  | .mulFp12 rd rs1 rs2 => { sources := [(rs1, [.fp12]), (rs2, [.fp12])], dest := some rd }
  | .sqrFp rd rs1 => { sources := [(rs1, [.fp])], dest := some rd }
  | .sqrFp2 rd rs1 => { sources := [(rs1, [.fp2])], dest := some rd }
  | .sqrFp6 rd rs1 => { sources := [(rs1, [.fp6])], dest := some rd }
  | .sqrFp12 rd rs1 => { sources := [(rs1, [.fp12])], dest := some rd }
  | .invFp rd rs1 => { sources := [(rs1, [.fp])], dest := some rd }
  | .invFp2 rd rs1 => { sources := [(rs1, [.fp2])], dest := some rd }
  | .invFp6 rd rs1 => { sources := [(rs1, [.fp6])], dest := some rd }
  | .invFp12 rd rs1 => { sources := [(rs1, [.fp12])], dest := some rd }
  | .powFp rd rs1 rs2 => { sources := [(rs1, [.fp]), (rs2, [.sc])], dest := some rd }
  | .powFp2 rd rs1 rs2 => { sources := [(rs1, [.fp2]), (rs2, [.sc])], dest := some rd }
  | .powFp6 rd rs1 rs2 => { sources := [(rs1, [.fp6]), (rs2, [.sc])], dest := some rd }
  | .powFp12 rd rs1 rs2 => { sources := [(rs1, [.fp12]), (rs2, [.sc])], dest := some rd }
  | .conjFp2 rd rs1 => { sources := [(rs1, [.fp2])], dest := some rd }
  | .conjFp12 rd rs1 => { sources := [(rs1, [.fp12])], dest := some rd }
  | .frobFp rd rs1 _ => { sources := [(rs1, [.fp])], dest := some rd }
  | .frobFp2 rd rs1 _ => { sources := [(rs1, [.fp2])], dest := some rd }
  | .frobFp6 rd rs1 _ => { sources := [(rs1, [.fp6])], dest := some rd }
  | .frobFp12 rd rs1 _ => { sources := [(rs1, [.fp12])], dest := some rd }
  | .mulxi rd rs1 => { sources := [(rs1, [.fp2])], dest := some rd }
  | .iszeroFp rs1 => { sources := [(rs1, [.fp])], flag := true }
  | .iszeroFp2 rs1 => { sources := [(rs1, [.fp2])], flag := true }
  | .iszeroFp6 rs1 => { sources := [(rs1, [.fp6])], flag := true }
  | .iszeroFp12 rs1 => { sources := [(rs1, [.fp12])], flag := true }
  | .isoneFp rs1 => { sources := [(rs1, [.fp])], flag := true }
  | .isoneFp2 rs1 => { sources := [(rs1, [.fp2])], flag := true }
  | .isoneFp6 rs1 => { sources := [(rs1, [.fp6])], flag := true }
  | .isoneFp12 rs1 => { sources := [(rs1, [.fp12])], flag := true }
  | .embFp2 rd rs1 => { sources := [(rs1, [.fp])], dest := some rd }
  | .embFp6 rd rs1 => { sources := [(rs1, [.fp, .fp2])], dest := some rd }
  | .embFp12 rd rs1 => { sources := [(rs1, [.fp, .fp2, .fp6])], dest := some rd }
  | .mkfp2 rd rs1 rs2 => { sources := [(rs1, [.fp]), (rs2, [.fp])], dest := some rd }
  | .coefFp rd rs1 _ => { sources := [(rs1, [.fp])], dest := some rd }
  | .coefFp2 rd rs1 _ => { sources := [(rs1, [.fp2])], dest := some rd }
  | .coefFp6 rd rs1 _ => { sources := [(rs1, [.fp6])], dest := some rd }
  | .coefFp12 rd rs1 _ => { sources := [(rs1, [.fp12])], dest := some rd }
  | .paddG1 rd rs1 rs2 => { sources := [(rs1, [.g1, .g1j]), (rs2, [.g1, .g1j])], dest := some rd }
  | .paddG2 rd rs1 rs2 => { sources := [(rs1, [.g2, .g2j]), (rs2, [.g2, .g2j])], dest := some rd }
  | .pdblG1 rd rs1 => { sources := [(rs1, [.g1, .g1j])], dest := some rd }
  | .pdblG2 rd rs1 => { sources := [(rs1, [.g2, .g2j])], dest := some rd }
  | .pnegG1 rd rs1 => { sources := [(rs1, [.g1, .g1j])], dest := some rd }
  | .pnegG2 rd rs1 => { sources := [(rs1, [.g2, .g2j])], dest := some rd }
  | .pmulG1 rd rs1 rs2 => { sources := [(rs1, [.g1, .g1j]), (rs2, [.sc])], dest := some rd }
  | .pmulG2 rd rs1 rs2 => { sources := [(rs1, [.g2, .g2j]), (rs2, [.sc])], dest := some rd }
  | .ptojG1 rd rs1 => { sources := [(rs1, [.g1])], dest := some rd }
  | .ptojG2 rd rs1 => { sources := [(rs1, [.g2])], dest := some rd }
  | .ptoaG1 rd rs1 => { sources := [(rs1, [.g1j])], dest := some rd }
  | .ptoaG2 rd rs1 => { sources := [(rs1, [.g2j])], dest := some rd }
  | .isinfG1 rs1 => { sources := [(rs1, [.g1, .g1j])], flag := true }
  | .isinfG2 rs1 => { sources := [(rs1, [.g2, .g2j])], flag := true }
  | .pinfG1 rd => { dest := some rd }
  | .pinfG2 rd => { dest := some rd }

/-- The PC after an instruction that does not raise (10_state.md R38). -/
def nextPc (i : Instr) (s : State) : BitVec 10 :=
  match (accessOf i).target with
  | none => s.pc + 1
  | some target =>
    if (accessOf i).cond = none ∨ (accessOf i).cond = some s.flag then target.setWidth 10 else s.pc + 1

/-! ## Arithmetic relations -/

/-- The laws of a commutative ring with unit, the axioms 42_fp.md R225 lists but for the inverse. -/
def RingLaws {T : Type} (zero one : T) (add sub mul : T → T → T) (neg : T → T) : Prop :=
  ∀ a b c : T,
    add a b = add b a ∧ add a (add b c) = add (add a b) c ∧ add zero a = a ∧ add a (neg a) = zero ∧
    sub a b = add a (neg b) ∧ sub a a = zero ∧
    mul a b = mul b a ∧ mul a (mul b c) = mul (mul a b) c ∧ mul one a = a ∧
    mul a (add b c) = add (mul a b) (mul a c)

/-- `r = add(a, b)` by the chord-and-tangent law (46_g1.md R360), the slope given by what it times the denominator is
instead of by an inverse. -/
def IsSum {F : Type} (o : FieldOps F) : Pt F → Pt F → Pt F → Prop
  | .inf, b, r => r = b
  | .aff x y, .inf, r => r = .aff x y
  | .aff x1 y1, .aff x2 y2, r =>
    (x1 = x2 ∧ o.add y1 y2 = o.zero ∧ r = .inf) ∨
    ((x1 ≠ x2 ∨ o.add y1 y2 ≠ o.zero) ∧ ∃ lam x3 y3 : F,
      (x1 = x2 → o.mul lam (o.add y1 y1) = o.add (o.add (o.mul x1 x1) (o.mul x1 x1)) (o.mul x1 x1)) ∧
      (x1 ≠ x2 → o.mul lam (o.sub x2 x1) = o.sub y2 y1) ∧
      x3 = o.sub (o.sub (o.mul lam lam) x1) x2 ∧
      y3 = o.sub (o.mul lam (o.sub x1 x3)) y1 ∧
      r = .aff x3 y3)

/-- NONVERT of 48_pairing.md R422 by its w-power coefficients: g0 = −yP, g1 = λ·xP, g3 = yT − λ·xT. -/
def nonvert (lam xt yt : Fp2) (xp yp : Fp) : Fp12 :=
  Fp12.ofW ⟨yp.neg, Fp.zero⟩ ⟨lam.c0.mul xp, lam.c1.mul xp⟩ Fp2.zero (yt.sub (lam.mul xt)) Fp2.zero Fp2.zero

/-- VERT of 48_pairing.md R422 by its w-power coefficients: g0 = xP, g2 = −xT. -/
def vert (xt : Fp2) (xp : Fp) : Fp12 := Fp12.ofW ⟨xp, Fp.zero⟩ Fp2.zero xt.neg Fp2.zero Fp2.zero Fp2.zero

/-- `l = line(T, S, P)` for finite points where the line can be formed (48_pairing.md R422). -/
def IsLine (xt yt xs ys : Fp2) (xp yp : Fp) (l : Fp12) : Prop :=
  (xt ≠ xs ∧ ∃ lam : Fp2, lam.mul (xs.sub xt) = ys.sub yt ∧ l = nonvert lam xt yt xp yp) ∨
  (xt = xs ∧ yt = ys ∧ yt ≠ Fp2.zero ∧
    ∃ lam : Fp2, lam.mul (yt.add yt) = ((xt.mul xt).add (xt.mul xt)).add (xt.mul xt) ∧
      l = nonvert lam xt yt xp yp) ∨
  (xt = xs ∧ yt ≠ ys ∧ l = vert xt xp)

/-- `v` is the Fp6 product of `x` and `y`, by the schoolbook formula of 44_fp6.md R290 and by the Karatsuba formula of
R291 at once, with `mulXi` written as the product with ξ = 9 + u. -/
def IsProdFp6 (x y v : Fp6) : Prop :=
  v.c0 = (x.c0.mul y.c0).add (Fp2.xi.mul ((x.c1.mul y.c2).add (x.c2.mul y.c1))) ∧
  v.c1 = ((x.c0.mul y.c1).add (x.c1.mul y.c0)).add (Fp2.xi.mul (x.c2.mul y.c2)) ∧
  v.c2 = ((x.c0.mul y.c2).add (x.c1.mul y.c1)).add (x.c2.mul y.c0) ∧
  v.c0 = (x.c0.mul y.c0).add (Fp2.xi.mul
    ((((x.c1.add x.c2).mul (y.c1.add y.c2)).sub (x.c1.mul y.c1)).sub (x.c2.mul y.c2))) ∧
  v.c1 = ((((x.c0.add x.c1).mul (y.c0.add y.c1)).sub (x.c0.mul y.c0)).sub (x.c1.mul y.c1)).add
    (Fp2.xi.mul (x.c2.mul y.c2)) ∧
  v.c2 = ((((x.c0.add x.c2).mul (y.c0.add y.c2)).sub (x.c0.mul y.c0)).sub (x.c2.mul y.c2)).add (x.c1.mul y.c1)

/-- `v` is the Fp12 product of `x` and `y`, by the formula of 45_fp12.md R320 and by the Karatsuba formula of R321 at
once, with v· written out as (ξ·a2, a0, a1). -/
def IsProdFp12 (x y v : Fp12) : Prop :=
  let t0 := x.c0.mul y.c0
  let t1 := x.c1.mul y.c1
  v.c0 = t0.add ⟨Fp2.xi.mul t1.c2, t1.c0, t1.c1⟩ ∧
  v.c1 = (x.c0.mul y.c1).add (x.c1.mul y.c0) ∧
  v.c1 = (((x.c0.add x.c1).mul (y.c0.add y.c1)).sub t0).sub t1

/-- Fp2 slot `k` of an Fp6 value (20_memory.md R96). -/
def slotOf (a : Fp6) (k : Nat) : Fp2 := if k = 0 then a.c0 else if k = 1 then a.c1 else a.c2

/-- Fp6 half `j` of an Fp12 value (20_memory.md R96). -/
def halfOf (a : Fp12) (j : Nat) : Fp6 := if j = 0 then a.c0 else a.c1

/-- Coefficient `l` of an Fp2 value, 0 the real one (20_memory.md R96). -/
def partOf (a : Fp2) (l : Nat) : Fp := if l = 0 then a.c0 else a.c1

/-- The Miller unit after a LOOP step that left f, T and the line value (48_pairing.md R425). -/
def afterLoop (u : Miller) (f : Fp12) (t : G2) (l : Fp12) : Miller :=
  if u.i = 0 then { u with f := f, t := t, l := l, st := .frob1 }
  else { u with f := f, t := t, l := l, i := u.i - 1 }

/-- The Miller unit after `n` steps that all complete. -/
def millerStepN : Nat → Miller → Option Miller
  | 0, u => some u
  | n + 1, u =>
    match millerStep u with
    | .ok v => millerStepN n v
    | .error _ => none

/-! ## The host's window (60_exceptions.md R500, R502) -/

/-- The offsets a host access is refused at while BUSY: IMEM, DMEM and PC. -/
def refusedWhileBusy (off : BitVec 15) : Prop :=
  (0x1000 ≤ off.toNat ∧ off.toNat < 0x1800) ∨ 0x4000 ≤ off.toNat ∨ off.toNat / 4 = 6

end Sys2Proof.Machine
end

