-- ==== Sys2Proof/Certificates/Slice0/Obligations.lean ====
section
/-! DEFINITION. The statements for the provers. Each docstring names the rules of spec/ it formalises; a clause that
rests on the model's own choice says so. -/

section Slice0

open Sys2Proof Sys2Proof.Machine

/-! ## Encoding (30_encoding.md) -/

/-- R111, R115 to R118: decoding the word of a well-formed instruction gives that instruction back. -/
def Obligations.DecodeOfEncode : Prop :=
  ∀ i : Instr, i.wf = true → decode (encode i) = .ok i

/-- R117: a legal word is the encoding of the instruction it decodes to, which is well formed; so no two words mean
the same instruction and no bit of a word is ignored. -/
def Obligations.EncodeOfDecode : Prop :=
  ∀ (w : Word) (i : Instr), decode w = .ok i → encode i = w ∧ i.wf = true

/-- R118: exactly the words of (a) to (d) are illegal; every other word is an instruction. -/
def Obligations.IllegalWords : Prop :=
  ∀ w : Word,
    (IllegalWord w → ∃ why, decode w = .illegal why) ∧ (¬ IllegalWord w → ∃ i, decode w = .ok i)

/-- R122: the worked encodings, one or more of each family, and the all-zero word of R118 (a). -/
def Obligations.SampleWords : Prop :=
  decode 0x80184400#32 = .ok (.addFp 3 1 2) ∧
  decode 0x4328000C#32 = .ok (.ldFp12 5 12) ∧
  decode 0x4501C003#32 = .ok (.stFp2 3 7) ∧
  decode 0x0C000005#32 = .ok (.jmp 5) ∧
  decode 0x68A08200#32 = .ok (.miller 20 2 1) ∧
  decode 0xA3210002#32 = .ok (.frobFp12 4 4 2) ∧
  decode 0xBB49000B#32 = .ok (.coefFp12 9 4 11) ∧
  decode 0xCC725600#32 = .ok (.pmulG1 14 9 11) ∧
  decode 0x04000000#32 = .ok .halt ∧
  decode 0x64000000#32 = .ok .mlstep ∧
  decode 0xAF050000#32 = .ok (.isoneFp12 20) ∧
  decode 0x4C100002#32 = .ok (.ldg2 2 2) ∧
  decode 0#32 = .illegal .opcode

/-! ## The engine's cycle (60_exceptions.md R481, R482, R486, R561) -/

/-- R486: where the word at PC decodes to an instruction, the engine's step is that instruction's execution. The step
adds nothing around it; with a `pass` at the head of the model's host queue (log entry 4) it first drops that entry. -/
def Obligations.StepRunsDecoded : Prop :=
  ∀ (s : State) (i : Instr), s.run = .busy → s.pc.toNat < 512 → decode (imemWord s s.pc.toNat) = .ok i →
    i.wf = true ∧
    (s.hostQ = [] → step s = exec i s) ∧
    (∀ q, s.hostQ = .pass :: q → step s = exec i { s with hostQ := q })

/-- R481, R482, R486, R510: fetching at PC ≥ 512 raises FETCH_BOUNDS with info PC and no word recorded; a fetched
word that is illegal raises ILLEGAL_INSN with that word recorded; and the engine takes no step while STATE is not
BUSY (that the model's step then answers the same state is log entry 5). -/
def Obligations.EngineCycleTraps : Prop :=
  ∀ s : State, s.hostQ = [] →
    (s.run = .busy → 512 ≤ s.pc.toNat →
      step s = .next { s with run := .fault, cause := 2, fpc := s.pc, finsn := 0,
                              finfo := BitVec.ofNat 32 s.pc.toNat, irqPend := true }) ∧
    (s.run = .busy → s.pc.toNat < 512 → ∀ why, decode (imemWord s s.pc.toNat) = .illegal why →
      step s = .next { s with run := .fault, cause := 1, fpc := s.pc, finsn := imemWord s s.pc.toNat,
                              finfo := 0, irqPend := true }) ∧
    (s.run ≠ .busy → step s = .next s)

/-- R486, R492, R561: in every state the model answers a next state: for a BUSY engine, for a pending host access and for
a reset. Two parts are the model's own inference: that a state which is not BUSY, with nothing pending, has itself as
its next state, where R486 gives the engine no step (log entry 5, DEDUCED), and that every exception, being fault-stop,
is a next state and no fault of the model (log entry 6, DEDUCED). -/
def Obligations.EveryStepAnswers : Prop :=
  ∀ s : State, ∃ t : State, step s = .next t

/-! ## Frames, over every instruction -/

/-- 10_state.md R36, R37, R41: no register but the destination, no FLAG but a test's, no Miller field but a
Miller instruction's changes. `accessOf` lists destination, FLAG and Miller accesses of every instruction. -/
def Obligations.FrameRegistersFlagMiller : Prop :=
  ∀ (i : Instr) (s t : State), exec i s = .next t →
    (∀ r : RegIdx, (accessOf i).dest ≠ some r → t.reg r = s.reg r) ∧
    ((accessOf i).flag = false → t.flag = s.flag) ∧
    ((accessOf i).miller = false → t.ml = s.ml)

/-- 10_state.md R39, 20_memory.md R81, R85: an instruction changes no byte of DMEM outside the granules its format
stores to (all of DMEM for one that stores nothing), no word of IMEM, and nothing of the host's side. -/
def Obligations.FrameMemoryAndHost : Prop :=
  ∀ (i : Instr) (s t : State), exec i s = .next t →
    ((accessOf i).stored = none → ∀ a, readByte t a = readByte s a) ∧
    (∀ g n, (accessOf i).stored = some (g, n) →
      ∀ a, ¬ (32 * g.toNat ≤ a ∧ a < 32 * (g.toNat + n)) → readByte t a = readByte s a) ∧
    (∀ k, imemWord t k = imemWord s k) ∧
    t.irqEn = s.irqEn ∧ t.hostErr = s.hostErr ∧ t.hostQ = s.hostQ ∧ t.rdata = s.rdata ∧ t.epoch = s.epoch

/-- 10_state.md R38, 60_exceptions.md R492: an instruction completes, moving only PC among PC and the status
registers; or it is HALT; or it raises: STATE, CAUSE, FPC, FINSN, FINFO and IRQ_PEND are written as R492 says, PC
stays, and nothing else changes but the Miller unit of a MILLER (R13). -/
def Obligations.FrameStatusAndPc : Prop :=
  ∀ (i : Instr) (s t : State), exec i s = .next t →
    (t.pc = nextPc i s ∧ t.run = s.run ∧ t.cause = s.cause ∧ t.fpc = s.fpc ∧ t.finsn = s.finsn ∧
      t.finfo = s.finfo ∧ t.irqPend = s.irqPend) ∨
    (i = .halt ∧ t = { s with pc := s.pc + 1, run := .halted, irqPend := true }) ∨
    (∃ (c : BitVec 5) (info : Word) (u : Miller), 1 ≤ c.toNat ∧ c.toNat ≤ 10 ∧
      t = { s.faulted c info with ml := u } ∧ (u ≠ s.ml → ∃ rd rq rp, i = .miller rd rq rp))

/-! ## Operand checks (40_control.md R158, 60_exceptions.md R483, R484, R494) -/

/-- R158, R483, R484: the first EMPTY source in list order raises EMPTY_READ, whatever the tags of the others; and
where no source is EMPTY, the first whose tag is not accepted raises TYPE_MISMATCH. The sources and accepted sets of
every instruction are `accessOf`'s; EQ's check of the two kinds is in EqResult. -/
def Obligations.OperandChecks : Prop :=
  ∀ (i : Instr) (s : State) (before after : List (RegIdx × List Tag)) (r : RegIdx) (accepted : List Tag),
    (accessOf i).sources = before ++ (r, accepted) :: after →
    ((∀ p ∈ before, s.reg p.1 ≠ .empty) → s.reg r = .empty →
      exec i s = .next (s.faulted 3 (BitVec.ofNat 32 r.toNat))) ∧
    ((∀ p ∈ (accessOf i).sources, s.reg p.1 ≠ .empty) → (∀ p ∈ before, (s.reg p.1).tag ∈ p.2) →
      (s.reg r).tag ∉ accepted → exec i s = .next (s.faulted 4 (BitVec.ofNat 32 r.toNat)))

/-! ## Invariants of every step, and reset -/

/-- Both memories keep their canonical form under every step. The form is the model's (log entry 2). -/
def Obligations.StepKeepsMemoriesCanonical : Prop :=
  ∀ s t : State, s.memoriesCanonical → step s = .next t → t.memoriesCanonical

/-- 10_state.md R32: no step puts a point off its curve into a register or into the Miller unit. -/
def Obligations.StepKeepsPointsOnCurve : Prop :=
  ∀ s t : State, s.pointsOnCurve → step s = .next t → t.pointsOnCurve

/-- 10_state.md R40: ML_Q and ML_P stay finite while a loop is in progress, and ML_I is 0 in FROB1 and FROB2;
60_exceptions.md R480, R492, R503: CAUSE, FPC, FINSN and FINFO hold an exception exactly in FAULT. -/
def Obligations.StepKeepsMillerAndStatus : Prop :=
  ∀ s t : State, step s = .next t →
    (s.ml.inProgressOk → t.ml.inProgressOk) ∧ (s.statusConsistent → t.statusConsistent)

/-- The reset state meets every invariant above. The values of the Miller fields are the model's (log entry 3). -/
def Obligations.ResetMeetsInvariants : Prop :=
  State.reset.memoriesCanonical ∧ State.reset.pointsOnCurve ∧ State.reset.ml.inProgressOk ∧
  State.reset.statusConsistent

/-- 70_reset_and_hazards.md R530 to R532: the reset state, the state after the reset input in any state and the state
after a host write of CTRL with SRESET set have every register at its reset value; the last keeps both memories, the
first two leave both at POWERON_MEM (the model's free value, log entry 1). -/
def Obligations.ResetValues : Prop :=
  State.reset.atReset ∧
  (∀ a, readByte State.reset a = Config.powerOnDmem 0 a) ∧ (∀ k, imemWord State.reset k = Config.powerOnImem 0 k) ∧
  ∀ (s : State) (q : List HostAct),
    (s.hostQ = .powerOn :: q → ∃ t, step s = .next t ∧ t.atReset ∧
      (∀ a, readByte t a = Config.powerOnDmem (s.epoch + 1) a) ∧
      (∀ k, imemWord t k = Config.powerOnImem (s.epoch + 1) k)) ∧
    (∀ v : Word, v.getLsbD 1 = true → s.hostQ = .write 0x004 v :: q → ∃ t, step s = .next t ∧ t.atReset ∧
      (∀ a, readByte t a = readByte s a) ∧ (∀ k, imemWord t k = imemWord s k))

/-! ## Control transfer and moves (40_control.md R150 to R157) -/

/-- R150 to R156: HALT, NOP, JMP, BT, BF, MOV and CLR do exactly this. -/
def Obligations.ControlResults : Prop :=
  ∀ s : State,
    exec .halt s = .next { s with pc := s.pc + 1, run := .halted, irqPend := true } ∧
    exec .nop s = .next { s with pc := s.pc + 1 } ∧
    (∀ target : Imm9,
      exec (.jmp target) s = .next { s with pc := BitVec.ofNat 10 target.toNat } ∧
      exec (.bt target) s =
        .next { s with pc := if s.flag = true then BitVec.ofNat 10 target.toNat else s.pc + 1 } ∧
      exec (.bf target) s =
        .next { s with pc := if s.flag = false then BitVec.ofNat 10 target.toNat else s.pc + 1 }) ∧
    (∀ rd rs1 : RegIdx, s.reg rs1 ≠ .empty →
      exec (.mov rd rs1) s = .next (s.setReg rd (s.reg rs1)).advance) ∧
    (∀ rd : RegIdx, exec (.clr rd) s = .next (s.setReg rd .empty).advance)

/-- R157: EQ compares two values of one kind: field values by their coefficients, scalars as integers, points as
points whatever their form; different kinds raise TYPE_MISMATCH(rs2). -/
def Obligations.EqResult : Prop :=
  ∀ (s : State) (rs1 rs2 : RegIdx),
    (∀ a b : Fp, s.reg rs1 = .fp a → s.reg rs2 = .fp b →
      ∃ f : Bool, (f = true ↔ a.val = b.val) ∧ exec (.eq rs1 rs2) s = .next (s.setFlag f).advance) ∧
    (∀ a b : Fp2, s.reg rs1 = .fp2 a → s.reg rs2 = .fp2 b →
      ∃ f : Bool, (f = true ↔ ∀ k < 2, (coeffAt a.coeffs k).val = (coeffAt b.coeffs k).val) ∧
        exec (.eq rs1 rs2) s = .next (s.setFlag f).advance) ∧
    (∀ a b : Fp6, s.reg rs1 = .fp6 a → s.reg rs2 = .fp6 b →
      ∃ f : Bool, (f = true ↔ ∀ k < 6, (coeffAt a.coeffs k).val = (coeffAt b.coeffs k).val) ∧
        exec (.eq rs1 rs2) s = .next (s.setFlag f).advance) ∧
    (∀ a b : Fp12, s.reg rs1 = .fp12 a → s.reg rs2 = .fp12 b →
      ∃ f : Bool, (f = true ↔ ∀ k < 12, (coeffAt a.coeffs k).val = (coeffAt b.coeffs k).val) ∧
        exec (.eq rs1 rs2) s = .next (s.setFlag f).advance) ∧
    (∀ j k : Scalar, s.reg rs1 = .sc j → s.reg rs2 = .sc k →
      ∃ f : Bool, (f = true ↔ j.toNat = k.toNat) ∧ exec (.eq rs1 rs2) s = .next (s.setFlag f).advance) ∧
    (∀ (m n : Form) (p q : G1), s.reg rs1 = ofG1 m p → s.reg rs2 = ofG1 n q →
      ∃ f : Bool, (f = true ↔ p = q) ∧ exec (.eq rs1 rs2) s = .next (s.setFlag f).advance) ∧
    (∀ (m n : Form) (p q : G2), s.reg rs1 = ofG2 m p → s.reg rs2 = ofG2 n q →
      ∃ f : Bool, (f = true ↔ p = q) ∧ exec (.eq rs1 rs2) s = .next (s.setFlag f).advance) ∧
    (s.reg rs1 ≠ .empty → s.reg rs2 ≠ .empty → (s.reg rs1).tag.kind ≠ (s.reg rs2).tag.kind →
      exec (.eq rs1 rs2) s = .next (s.faulted 4 (BitVec.ofNat 32 rs2.toNat)))

/-! ## Field arithmetic (42_fp.md to 45_fp12.md) -/

/-- R212, R213, R252, R253, R292, R293, R323, R324, R370, R401: the constants, whatever the destination held: every
coefficient 0, coefficient 0 of a one 1, and O in affine form. -/
def Obligations.ConstantResults : Prop :=
  ∀ (s : State) (rd : RegIdx),
    (∃ v : Fp, v.val = 0 ∧ exec (.zeroFp rd) s = .next (s.setReg rd (.fp v)).advance) ∧
    (∃ v : Fp, v.val = 1 ∧ exec (.oneFp rd) s = .next (s.setReg rd (.fp v)).advance) ∧
    (∃ v : Fp2, (∀ k < 2, (coeffAt v.coeffs k).val = 0) ∧
      exec (.zeroFp2 rd) s = .next (s.setReg rd (.fp2 v)).advance) ∧
    (∃ v : Fp2, (∀ k < 2, (coeffAt v.coeffs k).val = if k = 0 then 1 else 0) ∧
      exec (.oneFp2 rd) s = .next (s.setReg rd (.fp2 v)).advance) ∧
    (∃ v : Fp6, (∀ k < 6, (coeffAt v.coeffs k).val = 0) ∧
      exec (.zeroFp6 rd) s = .next (s.setReg rd (.fp6 v)).advance) ∧
    (∃ v : Fp6, (∀ k < 6, (coeffAt v.coeffs k).val = if k = 0 then 1 else 0) ∧
      exec (.oneFp6 rd) s = .next (s.setReg rd (.fp6 v)).advance) ∧
    (∃ v : Fp12, (∀ k < 12, (coeffAt v.coeffs k).val = 0) ∧
      exec (.zeroFp12 rd) s = .next (s.setReg rd (.fp12 v)).advance) ∧
    (∃ v : Fp12, (∀ k < 12, (coeffAt v.coeffs k).val = if k = 0 then 1 else 0) ∧
      exec (.oneFp12 rd) s = .next (s.setReg rd (.fp12 v)).advance) ∧
    exec (.pinfG1 rd) s = .next (s.setReg rd (.g1 .inf)).advance ∧
    exec (.pinfG2 rd) s = .next (s.setReg rd (.g2 .inf)).advance

/-- R214 to R218: ADD.FP, SUB.FP, NEG.FP, MUL.FP and SQR.FP are exact integer arithmetic reduced mod P. -/
def Obligations.FpRingResults : Prop :=
  ∀ (s : State) (rd rs1 : RegIdx) (a : Fp), s.reg rs1 = .fp a →
    (∀ (rs2 : RegIdx) (b : Fp), s.reg rs2 = .fp b →
      (∃ v : Fp, (v.val : Int) = ((a.val : Int) + b.val) % P ∧
        exec (.addFp rd rs1 rs2) s = .next (s.setReg rd (.fp v)).advance) ∧
      (∃ v : Fp, (v.val : Int) = ((a.val : Int) - b.val) % P ∧
        exec (.subFp rd rs1 rs2) s = .next (s.setReg rd (.fp v)).advance) ∧
      (∃ v : Fp, (v.val : Int) = ((a.val : Int) * b.val) % P ∧
        exec (.mulFp rd rs1 rs2) s = .next (s.setReg rd (.fp v)).advance)) ∧
    (∃ v : Fp, (v.val : Int) = ((P : Int) - a.val) % P ∧
      exec (.negFp rd rs1) s = .next (s.setReg rd (.fp v)).advance) ∧
    (∃ v : Fp, (v.val : Int) = ((a.val : Int) * a.val) % P ∧
      exec (.sqrFp rd rs1) s = .next (s.setReg rd (.fp v)).advance)

/-- R250, R251, R254 to R257, R259, R261, R262: the Fp2 operations coefficient by coefficient, as exact integer
arithmetic reduced mod P; the square in the form R259 derives. -/
def Obligations.Fp2RingResults : Prop :=
  ∀ (s : State) (rd rs1 : RegIdx) (a : Fp2), s.reg rs1 = .fp2 a →
    (∀ (rs2 : RegIdx) (b : Fp2), s.reg rs2 = .fp2 b →
      (∃ v : Fp2, (v.c0.val : Int) = ((a.c0.val : Int) + b.c0.val) % P ∧
        (v.c1.val : Int) = ((a.c1.val : Int) + b.c1.val) % P ∧
        exec (.addFp2 rd rs1 rs2) s = .next (s.setReg rd (.fp2 v)).advance) ∧
      (∃ v : Fp2, (v.c0.val : Int) = ((a.c0.val : Int) - b.c0.val) % P ∧
        (v.c1.val : Int) = ((a.c1.val : Int) - b.c1.val) % P ∧
        exec (.subFp2 rd rs1 rs2) s = .next (s.setReg rd (.fp2 v)).advance) ∧
      (∃ v : Fp2, (v.c0.val : Int) = ((a.c0.val : Int) * b.c0.val - a.c1.val * b.c1.val) % P ∧
        (v.c1.val : Int) = ((a.c0.val : Int) * b.c1.val + a.c1.val * b.c0.val) % P ∧
        exec (.mulFp2 rd rs1 rs2) s = .next (s.setReg rd (.fp2 v)).advance)) ∧
    (∃ v : Fp2, (v.c0.val : Int) = (-(a.c0.val : Int)) % P ∧ (v.c1.val : Int) = (-(a.c1.val : Int)) % P ∧
      exec (.negFp2 rd rs1) s = .next (s.setReg rd (.fp2 v)).advance) ∧
    (∃ v : Fp2, (v.c0.val : Int) = (((a.c0.val : Int) + a.c1.val) * ((a.c0.val : Int) - a.c1.val)) % P ∧
      (v.c1.val : Int) = (2 * (a.c0.val : Int) * a.c1.val) % P ∧
      exec (.sqrFp2 rd rs1) s = .next (s.setReg rd (.fp2 v)).advance) ∧
    (∃ v : Fp2, v.c0.val = a.c0.val ∧ (v.c1.val : Int) = (-(a.c1.val : Int)) % P ∧
      exec (.conjFp2 rd rs1) s = .next (s.setReg rd (.fp2 v)).advance) ∧
    (∃ v : Fp2, (v.c0.val : Int) = (9 * (a.c0.val : Int) - a.c1.val) % P ∧
      (v.c1.val : Int) = ((a.c0.val : Int) + 9 * a.c1.val) % P ∧
      exec (.mulxi rd rs1) s = .next (s.setReg rd (.fp2 v)).advance)

/-- R290, R291, R294 to R296, R298, R299: the Fp6 sums coefficient by coefficient, and the Fp6 product in both forms
the spec gives, the schoolbook one and the Karatsuba one, which agree for every operand. -/
def Obligations.Fp6RingResults : Prop :=
  ∀ (s : State) (rd rs1 : RegIdx) (a : Fp6), s.reg rs1 = .fp6 a →
    (∀ (rs2 : RegIdx) (b : Fp6), s.reg rs2 = .fp6 b →
      (∃ v : Fp6, (∀ k < 6, ((coeffAt v.coeffs k).val : Int) =
          (((coeffAt a.coeffs k).val : Int) + (coeffAt b.coeffs k).val) % P) ∧
        exec (.addFp6 rd rs1 rs2) s = .next (s.setReg rd (.fp6 v)).advance) ∧
      (∃ v : Fp6, (∀ k < 6, ((coeffAt v.coeffs k).val : Int) =
          (((coeffAt a.coeffs k).val : Int) - (coeffAt b.coeffs k).val) % P) ∧
        exec (.subFp6 rd rs1 rs2) s = .next (s.setReg rd (.fp6 v)).advance) ∧
      (∃ v : Fp6, IsProdFp6 a b v ∧
        exec (.mulFp6 rd rs1 rs2) s = .next (s.setReg rd (.fp6 v)).advance)) ∧
    (∃ v : Fp6, (∀ k < 6, ((coeffAt v.coeffs k).val : Int) = (-((coeffAt a.coeffs k).val : Int)) % P) ∧
      exec (.negFp6 rd rs1) s = .next (s.setReg rd (.fp6 v)).advance) ∧
    (∃ v : Fp6, IsProdFp6 a a v ∧ exec (.sqrFp6 rd rs1) s = .next (s.setReg rd (.fp6 v)).advance)

/-- R320, R321, R325, R326, R328 to R330, R332: the Fp12 sums coefficient by coefficient, the Fp12 product in both
forms the spec gives, and CONJ, which negates exactly the coefficients 6 to 11. -/
def Obligations.Fp12RingResults : Prop :=
  ∀ (s : State) (rd rs1 : RegIdx) (a : Fp12), s.reg rs1 = .fp12 a →
    (∀ (rs2 : RegIdx) (b : Fp12), s.reg rs2 = .fp12 b →
      (∃ v : Fp12, (∀ k < 12, ((coeffAt v.coeffs k).val : Int) =
          (((coeffAt a.coeffs k).val : Int) + (coeffAt b.coeffs k).val) % P) ∧
        exec (.addFp12 rd rs1 rs2) s = .next (s.setReg rd (.fp12 v)).advance) ∧
      (∃ v : Fp12, (∀ k < 12, ((coeffAt v.coeffs k).val : Int) =
          (((coeffAt a.coeffs k).val : Int) - (coeffAt b.coeffs k).val) % P) ∧
        exec (.subFp12 rd rs1 rs2) s = .next (s.setReg rd (.fp12 v)).advance) ∧
      (∃ v : Fp12, IsProdFp12 a b v ∧
        exec (.mulFp12 rd rs1 rs2) s = .next (s.setReg rd (.fp12 v)).advance)) ∧
    (∃ v : Fp12, (∀ k < 12, ((coeffAt v.coeffs k).val : Int) = (-((coeffAt a.coeffs k).val : Int)) % P) ∧
      exec (.negFp12 rd rs1) s = .next (s.setReg rd (.fp12 v)).advance) ∧
    (∃ v : Fp12, IsProdFp12 a a v ∧ exec (.sqrFp12 rd rs1) s = .next (s.setReg rd (.fp12 v)).advance) ∧
    (∃ v : Fp12, (∀ k < 12, ((coeffAt v.coeffs k).val : Int) =
        if k < 6 then ((coeffAt a.coeffs k).val : Int) else (-((coeffAt a.coeffs k).val : Int)) % P) ∧
      exec (.conjFp12 rd rs1) s = .next (s.setReg rd (.fp12 v)).advance)

/-- R225, R270, R306: the field axioms at every level: a commutative ring with unit in which every nonzero value times
its inverse is 1. (R339's further property of Fp12 is stated by FrobeniusFp6Fp12 and FexpProperties.) -/
def Obligations.TowerFieldLaws : Prop :=
  (RingLaws Fp.zero Fp.one Fp.add Fp.sub Fp.mul Fp.neg ∧ ∀ a : Fp, a ≠ Fp.zero → a.mul a.inv = Fp.one) ∧
  (RingLaws Fp2.zero Fp2.one Fp2.add Fp2.sub Fp2.mul Fp2.neg ∧ ∀ a : Fp2, a ≠ Fp2.zero → a.mul a.inv = Fp2.one) ∧
  (RingLaws Fp6.zero Fp6.one Fp6.add Fp6.sub Fp6.mul Fp6.neg ∧ ∀ a : Fp6, a ≠ Fp6.zero → a.mul a.inv = Fp6.one) ∧
  (RingLaws Fp12.zero Fp12.one Fp12.add Fp12.sub Fp12.mul Fp12.neg ∧
    ∀ a : Fp12, a ≠ Fp12.zero → a.mul a.inv = Fp12.one)

/-- R210, R211, R219, R250, R258: INV.FP and INV.FP2 of any nonzero value write a value whose product with it is 1. -/
def Obligations.InverseFpFp2 : Prop :=
  ∀ (s : State) (rd rs1 : RegIdx),
    (∀ a : Fp, s.reg rs1 = .fp a → a.val ≠ 0 →
      ∃ v : Fp, a.val * v.val % P = 1 ∧ exec (.invFp rd rs1) s = .next (s.setReg rd (.fp v)).advance) ∧
    (∀ a : Fp2, s.reg rs1 = .fp2 a → ¬ (a.c0.val = 0 ∧ a.c1.val = 0) →
      ∃ v : Fp2, a.mul v = Fp2.one ∧ exec (.invFp2 rd rs1) s = .next (s.setReg rd (.fp2 v)).advance)

/-- R290, R291, R297, R320, R327: INV.FP6 and INV.FP12 of any nonzero value write a value whose product with it is 1,
and no other value has that product: both levels are fields. -/
def Obligations.InverseFp6Fp12 : Prop :=
  ∀ (s : State) (rd rs1 : RegIdx),
    (∀ a : Fp6, s.reg rs1 = .fp6 a → (∃ k < 6, (coeffAt a.coeffs k).val ≠ 0) →
      ∃ v : Fp6, a.mul v = Fp6.one ∧ (∀ w, a.mul w = Fp6.one → w = v) ∧
        exec (.invFp6 rd rs1) s = .next (s.setReg rd (.fp6 v)).advance) ∧
    (∀ a : Fp12, s.reg rs1 = .fp12 a → (∃ k < 12, (coeffAt a.coeffs k).val ≠ 0) →
      ∃ v : Fp12, a.mul v = Fp12.one ∧ (∀ w, a.mul w = Fp12.one → w = v) ∧
        exec (.invFp12 rd rs1) s = .next (s.setReg rd (.fp12 v)).advance)

/-- R490: INV at every level and FEXP raise DIV_BY_ZERO(rs1) when the operand is the zero of its level. -/
def Obligations.DivByZeroTraps : Prop :=
  ∀ (s : State) (rd rs1 : RegIdx),
    (∀ a : Fp, s.reg rs1 = .fp a → a.val = 0 →
      exec (.invFp rd rs1) s = .next (s.faulted 8 (BitVec.ofNat 32 rs1.toNat))) ∧
    (∀ a : Fp2, s.reg rs1 = .fp2 a → (∀ k < 2, (coeffAt a.coeffs k).val = 0) →
      exec (.invFp2 rd rs1) s = .next (s.faulted 8 (BitVec.ofNat 32 rs1.toNat))) ∧
    (∀ a : Fp6, s.reg rs1 = .fp6 a → (∀ k < 6, (coeffAt a.coeffs k).val = 0) →
      exec (.invFp6 rd rs1) s = .next (s.faulted 8 (BitVec.ofNat 32 rs1.toNat))) ∧
    (∀ a : Fp12, s.reg rs1 = .fp12 a → (∀ k < 12, (coeffAt a.coeffs k).val = 0) →
      exec (.invFp12 rd rs1) s = .next (s.faulted 8 (BitVec.ofNat 32 rs1.toNat)) ∧
      exec (.fexp rd rs1) s = .next (s.faulted 8 (BitVec.ofNat 32 rs1.toNat)))

/-- 00_scope.md R16, R220, R260, R300, R331: POW at every level is the mathematical power: the product of e factors,
and 1 for e = 0, also for a zero base. -/
def Obligations.PowResults : Prop :=
  ∀ (s : State) (rd rs1 rs2 : RegIdx) (e : Scalar), s.reg rs2 = .sc e →
    (∀ a : Fp, s.reg rs1 = .fp a → ∃ v : Fp, v.val = a.val ^ e.toNat % P ∧
      exec (.powFp rd rs1 rs2) s = .next (s.setReg rd (.fp v)).advance) ∧
    (∀ a : Fp2, s.reg rs1 = .fp2 a → exec (.powFp2 rd rs1 rs2) s =
      .next (s.setReg rd (.fp2 ((fun x => x.mul a)^[e.toNat] Fp2.one))).advance) ∧
    (∀ a : Fp6, s.reg rs1 = .fp6 a → exec (.powFp6 rd rs1 rs2) s =
      .next (s.setReg rd (.fp6 ((fun x => x.mul a)^[e.toNat] Fp6.one))).advance) ∧
    (∀ a : Fp12, s.reg rs1 = .fp12 a → exec (.powFp12 rd rs1 rs2) s =
      .next (s.setReg rd (.fp12 ((fun x => x.mul a)^[e.toNat] Fp12.one))).advance)

/-- R221, R263: FROB.FP and FROB.FP2 are the map a ↦ a^(P^k) for every k the encoding admits; FROB.FP copies, and
FROB.FP2 copies for even k and conjugates for odd k. -/
def Obligations.FrobeniusFpFp2 : Prop :=
  ∀ (s : State) (rd rs1 : RegIdx) (k : Imm9),
    (∀ a : Fp, s.reg rs1 = .fp a →
      a.val ^ (P ^ k.toNat) % P = a.val ∧
      exec (.frobFp rd rs1 k) s = .next (s.setReg rd (.fp a)).advance) ∧
    (∀ a : Fp2, s.reg rs1 = .fp2 a →
      ∃ v : Fp2, v = (fun x => x.mul a)^[P ^ k.toNat] Fp2.one ∧
        v = (if k.toNat % 2 = 0 then a else ⟨a.c0, a.c1.neg⟩) ∧
        exec (.frobFp2 rd rs1 k) s = .next (s.setReg rd (.fp2 v)).advance)

/-- R301, R333: FROB.FP6 and FROB.FP12 are the map a ↦ a^(P^k) for every k the encoding admits. -/
def Obligations.FrobeniusFp6Fp12 : Prop :=
  ∀ (s : State) (rd rs1 : RegIdx) (k : Imm9),
    (∀ a : Fp6, s.reg rs1 = .fp6 a → exec (.frobFp6 rd rs1 k) s =
      .next (s.setReg rd (.fp6 ((fun x => x.mul a)^[P ^ k.toNat] Fp6.one))).advance) ∧
    (∀ a : Fp12, s.reg rs1 = .fp12 a → exec (.frobFp12 rd rs1 k) s =
      .next (s.setReg rd (.fp12 ((fun x => x.mul a)^[P ^ k.toNat] Fp12.one))).advance)

/-- 20_memory.md R96, R224, R267 to R269, R304, R305, R337, R338: EMB puts the value at the lowest coefficients and 0
elsewhere, MKFP2 takes rs1 as the real part, and COEF reads the coefficient of the index, 6j + 2k + l being
coefficient l of Fp2 slot k of half j. -/
def Obligations.EmbedAndProject : Prop :=
  ∀ (s : State) (rd rs1 : RegIdx),
    (∀ a : Fp, s.reg rs1 = .fp a →
      (∃ v : Fp2, (∀ k < 2, (coeffAt v.coeffs k).val = if k = 0 then a.val else 0) ∧
        exec (.embFp2 rd rs1) s = .next (s.setReg rd (.fp2 v)).advance) ∧
      (∃ v : Fp6, (∀ k < 6, (coeffAt v.coeffs k).val = if k = 0 then a.val else 0) ∧
        exec (.embFp6 rd rs1) s = .next (s.setReg rd (.fp6 v)).advance) ∧
      (∃ v : Fp12, (∀ k < 12, (coeffAt v.coeffs k).val = if k = 0 then a.val else 0) ∧
        exec (.embFp12 rd rs1) s = .next (s.setReg rd (.fp12 v)).advance) ∧
      (∀ (rs2 : RegIdx) (b : Fp), s.reg rs2 = .fp b →
        exec (.mkfp2 rd rs1 rs2) s = .next (s.setReg rd (.fp2 ⟨a, b⟩)).advance) ∧
      exec (.coefFp rd rs1 0) s = .next (s.setReg rd (.fp a)).advance) ∧
    (∀ a : Fp2, s.reg rs1 = .fp2 a →
      (∃ v : Fp6, (∀ k < 6, (coeffAt v.coeffs k).val = if k < 2 then (coeffAt a.coeffs k).val else 0) ∧
        exec (.embFp6 rd rs1) s = .next (s.setReg rd (.fp6 v)).advance) ∧
      (∃ v : Fp12, (∀ k < 12, (coeffAt v.coeffs k).val = if k < 2 then (coeffAt a.coeffs k).val else 0) ∧
        exec (.embFp12 rd rs1) s = .next (s.setReg rd (.fp12 v)).advance) ∧
      (∀ (l : Nat) (imm : Imm9), l < 2 → imm.toNat = l →
        exec (.coefFp2 rd rs1 imm) s = .next (s.setReg rd (.fp (partOf a l))).advance)) ∧
    (∀ a : Fp6, s.reg rs1 = .fp6 a →
      (∃ v : Fp12, (∀ k < 12, (coeffAt v.coeffs k).val = if k < 6 then (coeffAt a.coeffs k).val else 0) ∧
        exec (.embFp12 rd rs1) s = .next (s.setReg rd (.fp12 v)).advance) ∧
      (∀ (k l : Nat) (imm : Imm9), k < 3 → l < 2 → imm.toNat = 2 * k + l →
        exec (.coefFp6 rd rs1 imm) s = .next (s.setReg rd (.fp (partOf (slotOf a k) l))).advance)) ∧
    (∀ a : Fp12, s.reg rs1 = .fp12 a →
      ∀ (j k l : Nat) (imm : Imm9), j < 2 → k < 3 → l < 2 → imm.toNat = 6 * j + 2 * k + l →
        exec (.coefFp12 rd rs1 imm) s = .next (s.setReg rd (.fp (partOf (slotOf (halfOf a j) k) l))).advance)

/-- R222, R223, R264, R265, R302, R303, R334, R335, R366, R397, R431: the tests set FLAG exactly for zero, for one, for
O and for ML_ST = DONE, and write nothing else. -/
def Obligations.TestResults : Prop :=
  ∀ (s : State) (rs1 : RegIdx),
    (∀ a : Fp, s.reg rs1 = .fp a →
      (∃ f : Bool, (f = true ↔ a.val = 0) ∧ exec (.iszeroFp rs1) s = .next (s.setFlag f).advance) ∧
      (∃ f : Bool, (f = true ↔ a.val = 1) ∧ exec (.isoneFp rs1) s = .next (s.setFlag f).advance)) ∧
    (∀ a : Fp2, s.reg rs1 = .fp2 a →
      (∃ f : Bool, (f = true ↔ ∀ k < 2, (coeffAt a.coeffs k).val = 0) ∧
        exec (.iszeroFp2 rs1) s = .next (s.setFlag f).advance) ∧
      (∃ f : Bool, (f = true ↔ ∀ k < 2, (coeffAt a.coeffs k).val = if k = 0 then 1 else 0) ∧
        exec (.isoneFp2 rs1) s = .next (s.setFlag f).advance)) ∧
    (∀ a : Fp6, s.reg rs1 = .fp6 a →
      (∃ f : Bool, (f = true ↔ ∀ k < 6, (coeffAt a.coeffs k).val = 0) ∧
        exec (.iszeroFp6 rs1) s = .next (s.setFlag f).advance) ∧
      (∃ f : Bool, (f = true ↔ ∀ k < 6, (coeffAt a.coeffs k).val = if k = 0 then 1 else 0) ∧
        exec (.isoneFp6 rs1) s = .next (s.setFlag f).advance)) ∧
    (∀ a : Fp12, s.reg rs1 = .fp12 a →
      (∃ f : Bool, (f = true ↔ ∀ k < 12, (coeffAt a.coeffs k).val = 0) ∧
        exec (.iszeroFp12 rs1) s = .next (s.setFlag f).advance) ∧
      (∃ f : Bool, (f = true ↔ ∀ k < 12, (coeffAt a.coeffs k).val = if k = 0 then 1 else 0) ∧
        exec (.isoneFp12 rs1) s = .next (s.setFlag f).advance)) ∧
    (∀ (m : Form) (p : G1), s.reg rs1 = ofG1 m p →
      ∃ f : Bool, (f = true ↔ p = .inf) ∧ exec (.isinfG1 rs1) s = .next (s.setFlag f).advance) ∧
    (∀ (m : Form) (p : G2), s.reg rs1 = ofG2 m p →
      ∃ f : Bool, (f = true ↔ p = .inf) ∧ exec (.isinfG2 rs1) s = .next (s.setFlag f).advance) ∧
    (∃ f : Bool, (f = true ↔ s.ml.st = .done) ∧ exec .mldone s = .next (s.setFlag f).advance)

/-! ## Points (46_g1.md, 47_g2.md) -/

/-- R360, R362 to R364: PADD.G1 and PDBL.G1 write the sum of the chord-and-tangent law, under the tag R362 gives, for
any two points of the curve in any form. -/
def Obligations.PointAddG1 : Prop :=
  ∀ (s : State) (rd rs1 : RegIdx) (m : Form) (p : G1), s.reg rs1 = ofG1 m p → g1OnCurve p = true →
    (∀ (rs2 : RegIdx) (n : Form) (q : G1), s.reg rs2 = ofG1 n q → g1OnCurve q = true →
      ∃ r : G1, IsSum fpOps p q r ∧ exec (.paddG1 rd rs1 rs2) s =
        .next (s.setReg rd (if m = .aff ∧ n = .aff then .g1 r else .g1j r)).advance) ∧
    (∃ r : G1, IsSum fpOps p p r ∧ exec (.pdblG1 rd rs1) s = .next (s.setReg rd (ofG1 m r)).advance)

/-- R390, R393 to R395: the same for PADD.G2 and PDBL.G2 on the twist. -/
def Obligations.PointAddG2 : Prop :=
  ∀ (s : State) (rd rs1 : RegIdx) (m : Form) (p : G2), s.reg rs1 = ofG2 m p → g2OnCurve p = true →
    (∀ (rs2 : RegIdx) (n : Form) (q : G2), s.reg rs2 = ofG2 n q → g2OnCurve q = true →
      ∃ r : G2, IsSum fp2Ops p q r ∧ exec (.paddG2 rd rs1 rs2) s =
        .next (s.setReg rd (if m = .aff ∧ n = .aff then .g2 r else .g2j r)).advance) ∧
    (∃ r : G2, IsSum fp2Ops p p r ∧ exec (.pdblG2 rd rs1) s = .next (s.setReg rd (ofG2 m r)).advance)

/-- R360, R365, R368, R369, R390, R396, R399, R400: PNEG negates y and keeps the tag, O staying O; PTOJ and PTOA change
only the tag, from affine to Jacobian and back. -/
def Obligations.PointUnaryResults : Prop :=
  ∀ (s : State) (rd rs1 : RegIdx),
    (∀ m : Form, s.reg rs1 = ofG1 m .inf →
      exec (.pnegG1 rd rs1) s = .next (s.setReg rd (ofG1 m .inf)).advance) ∧
    (∀ (m : Form) (x y : Fp), s.reg rs1 = ofG1 m (.aff x y) →
      ∃ y' : Fp, (y'.val : Int) = (-(y.val : Int)) % P ∧
        exec (.pnegG1 rd rs1) s = .next (s.setReg rd (ofG1 m (.aff x y'))).advance) ∧
    (∀ m : Form, s.reg rs1 = ofG2 m .inf →
      exec (.pnegG2 rd rs1) s = .next (s.setReg rd (ofG2 m .inf)).advance) ∧
    (∀ (m : Form) (x y : Fp2), s.reg rs1 = ofG2 m (.aff x y) →
      ∃ y' : Fp2, (y'.c0.val : Int) = (-(y.c0.val : Int)) % P ∧ (y'.c1.val : Int) = (-(y.c1.val : Int)) % P ∧
        exec (.pnegG2 rd rs1) s = .next (s.setReg rd (ofG2 m (.aff x y'))).advance) ∧
    (∀ p : G1,
      (s.reg rs1 = .g1 p → exec (.ptojG1 rd rs1) s = .next (s.setReg rd (.g1j p)).advance) ∧
      (s.reg rs1 = .g1j p → exec (.ptoaG1 rd rs1) s = .next (s.setReg rd (.g1 p)).advance)) ∧
    (∀ p : G2,
      (s.reg rs1 = .g2 p → exec (.ptojG2 rd rs1) s = .next (s.setReg rd (.g2j p)).advance) ∧
      (s.reg rs1 = .g2j p → exec (.ptoaG2 rd rs1) s = .next (s.setReg rd (.g2 p)).advance))

/-- R360, R367, R390, R398: PMUL writes mul(A, k) under the point operand's tag, the scalar not reduced, and mul is
double-and-add: [0]A = O, [2k]A = [k]A ⊕ [k]A, [2k+1]A = [2k]A ⊕ A, for every A whatever its form. -/
def Obligations.PointMulResults : Prop :=
  (∀ (s : State) (rd rs1 rs2 : RegIdx) (k : Scalar) (m : Form), s.reg rs2 = .sc k →
    (∀ p : G1, s.reg rs1 = ofG1 m p →
      exec (.pmulG1 rd rs1 rs2) s = .next (s.setReg rd (ofG1 m (g1Mul p k.toNat))).advance) ∧
    (∀ p : G2, s.reg rs1 = ofG2 m p →
      exec (.pmulG2 rd rs1 rs2) s = .next (s.setReg rd (ofG2 m (g2Mul p k.toNat))).advance)) ∧
  (∀ (p : G1) (k : Nat), g1Mul p 0 = .inf ∧ g1Mul p (2 * k) = g1Add (g1Mul p k) (g1Mul p k) ∧
    g1Mul p (2 * k + 1) = g1Add (g1Mul p (2 * k)) p) ∧
  (∀ (p : G2) (k : Nat), g2Mul p 0 = .inf ∧ g2Mul p (2 * k) = g2Add (g2Mul p k) (g2Mul p k) ∧
    g2Mul p (2 * k + 1) = g2Add (g2Mul p (2 * k)) p)

/-- R371, the laws that do not name r: the points of G1 are an abelian group, and PMUL is its scalar multiple. -/
def Obligations.GroupLawsG1 : Prop :=
  ∀ a b c : G1, g1OnCurve a = true → g1OnCurve b = true → g1OnCurve c = true →
    g1Add a b = g1Add b a ∧ g1Add (g1Add a b) c = g1Add a (g1Add b c) ∧ g1Add a .inf = a ∧
    g1Add a (g1Neg a) = .inf ∧
    ∀ j k : Nat, g1Add (g1Mul a j) (g1Mul a k) = g1Mul a (j + k) ∧ g1Mul (g1Mul a k) j = g1Mul a (j * k)

/-- R402: commutativity, associativity, the identity and the inverse hold for every point of the twist. -/
def Obligations.GroupLawsG2 : Prop :=
  ∀ a b c : G2, g2OnCurve a = true → g2OnCurve b = true → g2OnCurve c = true →
    g2Add a b = g2Add b a ∧ g2Add (g2Add a b) c = g2Add a (g2Add b c) ∧ g2Add a .inf = a ∧
    g2Add a (g2Neg a) = .inf ∧
    ∀ j k : Nat, g2Add (g2Mul a j) (g2Mul a k) = g2Mul a (j + k) ∧ g2Mul (g2Mul a k) j = g2Mul a (j * k)

/-! ## Loads and stores (41_load_store.md) -/

/-- 20_memory.md R96, R181 to R184, R194: LD loads coefficient k from granule g + k where every word is below P, and
LDSC loads all 256 bits of its granule whatever they are. -/
def Obligations.LoadFieldResults : Prop :=
  ∀ (s : State) (rd : RegIdx) (g : Imm9),
    (word s g.toNat < P → ∃ v : Fp, v.val = word s g.toNat ∧
      exec (.ldFp rd g) s = .next (s.setReg rd (.fp v)).advance) ∧
    (g.toNat + 2 ≤ 512 → (∀ k < 2, word s (g.toNat + k) < P) →
      ∃ v : Fp2, (∀ k < 2, (coeffAt v.coeffs k).val = word s (g.toNat + k)) ∧
        exec (.ldFp2 rd g) s = .next (s.setReg rd (.fp2 v)).advance) ∧
    (g.toNat + 6 ≤ 512 → (∀ k < 6, word s (g.toNat + k) < P) →
      ∃ v : Fp6, (∀ k < 6, (coeffAt v.coeffs k).val = word s (g.toNat + k)) ∧
        exec (.ldFp6 rd g) s = .next (s.setReg rd (.fp6 v)).advance) ∧
    (g.toNat + 12 ≤ 512 → (∀ k < 12, word s (g.toNat + k) < P) →
      ∃ v : Fp12, (∀ k < 12, (coeffAt v.coeffs k).val = word s (g.toNat + k)) ∧
        exec (.ldFp12 rd g) s = .next (s.setReg rd (.fp12 v)).advance) ∧
    (∃ k : Scalar, k.toNat = word s g.toNat ∧ exec (.ldsc rd g) s = .next (s.setReg rd (.sc k)).advance)

/-- 20_memory.md R95, R189 to R191, R489: LDG1 and LDG2 take all-zero words as O, other words as the point with those
coordinates where it is on its curve (the imaginary coefficient of each G2 coordinate first, b₂ by R189's digits), and
raise INVALID_POINT(g) otherwise. -/
def Obligations.LoadPointResults : Prop :=
  ∀ (s : State) (rd : RegIdx) (g : Imm9),
    (g.toNat + 2 ≤ 512 → ∀ x y : Fp, word s g.toNat = x.val → word s (g.toNat + 1) = y.val →
      (x.val = 0 ∧ y.val = 0 → exec (.ldg1 rd g) s = .next (s.setReg rd (.g1 .inf)).advance) ∧
      (¬ (x.val = 0 ∧ y.val = 0) → ((y.val : Int) ^ 2 - (x.val : Int) ^ 3 - 3) % P = 0 →
        exec (.ldg1 rd g) s = .next (s.setReg rd (.g1 (.aff x y))).advance) ∧
      (¬ (x.val = 0 ∧ y.val = 0) → ((y.val : Int) ^ 2 - (x.val : Int) ^ 3 - 3) % P ≠ 0 →
        exec (.ldg1 rd g) s = .next (s.faulted 7 (BitVec.ofNat 32 g.toNat)))) ∧
    (g.toNat + 4 ≤ 512 → ∀ x y : Fp2, word s g.toNat = x.c1.val → word s (g.toNat + 1) = x.c0.val →
      word s (g.toNat + 2) = y.c1.val → word s (g.toNat + 3) = y.c0.val →
      (x = Fp2.zero ∧ y = Fp2.zero → exec (.ldg2 rd g) s = .next (s.setReg rd (.g2 .inf)).advance) ∧
      (¬ (x = Fp2.zero ∧ y = Fp2.zero) →
        y.mul y = ((x.mul x).mul x).add
          ⟨Fp.ofNat 19485874751759354771024239261021720505790618469301721065564631296452457478373,
           Fp.ofNat 266929791119991161246907387137283842545076965332900288569378510910307636690⟩ →
        exec (.ldg2 rd g) s = .next (s.setReg rd (.g2 (.aff x y))).advance) ∧
      (¬ (x = Fp2.zero ∧ y = Fp2.zero) →
        y.mul y ≠ ((x.mul x).mul x).add
          ⟨Fp.ofNat 19485874751759354771024239261021720505790618469301721065564631296452457478373,
           Fp.ofNat 266929791119991161246907387137283842545076965332900288569378510910307636690⟩ →
        exec (.ldg2 rd g) s = .next (s.faulted 7 (BitVec.ofNat 32 g.toNat))))

/-- 20_memory.md R81, R180, R487, R488, R494: a load or store whose granules do not all exist raises MEM_BOUNDS(g), a
store only after its operand's checks; and a load of field coefficients raises DECODE_ERROR for the first granule
whose word is not below P. -/
def Obligations.MemoryTraps : Prop :=
  ∀ (i : Instr) (s : State) (g : Imm9) (n : Nat),
    ((accessOf i).loaded = some (g, n) →
      (512 < g.toNat + n → exec i s = .next (s.faulted 5 (BitVec.ofNat 32 g.toNat))) ∧
      (g.toNat + n ≤ 512 → (∀ rd h, i ≠ .ldsc rd h) → ∀ k < n, (∀ j < k, word s (g.toNat + j) < P) →
        P ≤ word s (g.toNat + k) → exec i s = .next (s.faulted 6 (BitVec.ofNat 32 (g.toNat + k))))) ∧
    ((accessOf i).stored = some (g, n) → (∀ p ∈ (accessOf i).sources, (s.reg p.1).tag ∈ p.2) →
      512 < g.toNat + n → exec i s = .next (s.faulted 5 (BitVec.ofNat 32 g.toNat)))

/-- 20_memory.md R95, R96, R185 to R188, R192, R193, R195: what each store leaves in every granule: the stored words in
its own granules, in the layout's order, and every other granule as before. -/
def Obligations.StoreResults : Prop :=
  ∀ (s : State) (g : Imm9) (rs1 : RegIdx),
    (∀ a : Fp, s.reg rs1 = .fp a → ∃ m : Dmem, exec (.stFp g rs1) s = .next (s.setDmem m).advance ∧
      ∀ h, word (s.setDmem m) h = if h = g.toNat then a.val else word s h) ∧
    (∀ a : Fp2, s.reg rs1 = .fp2 a → g.toNat + 2 ≤ 512 →
      ∃ m : Dmem, exec (.stFp2 g rs1) s = .next (s.setDmem m).advance ∧
        ∀ h, word (s.setDmem m) h =
          if g.toNat ≤ h ∧ h < g.toNat + 2 then (coeffAt a.coeffs (h - g.toNat)).val else word s h) ∧
    (∀ a : Fp6, s.reg rs1 = .fp6 a → g.toNat + 6 ≤ 512 →
      ∃ m : Dmem, exec (.stFp6 g rs1) s = .next (s.setDmem m).advance ∧
        ∀ h, word (s.setDmem m) h =
          if g.toNat ≤ h ∧ h < g.toNat + 6 then (coeffAt a.coeffs (h - g.toNat)).val else word s h) ∧
    (∀ a : Fp12, s.reg rs1 = .fp12 a → g.toNat + 12 ≤ 512 →
      ∃ m : Dmem, exec (.stFp12 g rs1) s = .next (s.setDmem m).advance ∧
        ∀ h, word (s.setDmem m) h =
          if g.toNat ≤ h ∧ h < g.toNat + 12 then (coeffAt a.coeffs (h - g.toNat)).val else word s h) ∧
    (s.reg rs1 = .g1 .inf → g.toNat + 2 ≤ 512 →
      ∃ m : Dmem, exec (.stg1 g rs1) s = .next (s.setDmem m).advance ∧
        ∀ h, word (s.setDmem m) h = if g.toNat ≤ h ∧ h < g.toNat + 2 then 0 else word s h) ∧
    (∀ x y : Fp, s.reg rs1 = .g1 (.aff x y) → g.toNat + 2 ≤ 512 →
      ∃ m : Dmem, exec (.stg1 g rs1) s = .next (s.setDmem m).advance ∧
        ∀ h, word (s.setDmem m) h =
          if h = g.toNat then x.val else if h = g.toNat + 1 then y.val else word s h) ∧
    (s.reg rs1 = .g2 .inf → g.toNat + 4 ≤ 512 →
      ∃ m : Dmem, exec (.stg2 g rs1) s = .next (s.setDmem m).advance ∧
        ∀ h, word (s.setDmem m) h = if g.toNat ≤ h ∧ h < g.toNat + 4 then 0 else word s h) ∧
    (∀ x y : Fp2, s.reg rs1 = .g2 (.aff x y) → g.toNat + 4 ≤ 512 →
      ∃ m : Dmem, exec (.stg2 g rs1) s = .next (s.setDmem m).advance ∧
        ∀ h, word (s.setDmem m) h =
          if h = g.toNat then x.c1.val else if h = g.toNat + 1 then x.c0.val
          else if h = g.toNat + 2 then y.c1.val else if h = g.toNat + 3 then y.c0.val else word s h) ∧
    (∀ k : Scalar, s.reg rs1 = .sc k → ∃ m : Dmem, exec (.stsc g rs1) s = .next (s.setDmem m).advance ∧
      ∀ h, word (s.setDmem m) h = if h = g.toNat then k.toNat else word s h)

/-- R186 to R188, R192, R193, R195, the round trips they derive: a load of what the store of the same layout wrote puts
the stored value, tag and all, into its destination. A point must be on its curve, as every register's point is
(10_state.md R32). -/
def Obligations.StoreThenLoad : Prop :=
  ∀ (s : State) (g : Imm9) (rs1 rd : RegIdx),
    (∀ a : Fp, s.reg rs1 = .fp a →
      ∃ t u, exec (.stFp g rs1) s = .next t ∧ exec (.ldFp rd g) t = .next u ∧ u.reg rd = .fp a) ∧
    (∀ a : Fp2, s.reg rs1 = .fp2 a → g.toNat + 2 ≤ 512 →
      ∃ t u, exec (.stFp2 g rs1) s = .next t ∧ exec (.ldFp2 rd g) t = .next u ∧ u.reg rd = .fp2 a) ∧
    (∀ a : Fp6, s.reg rs1 = .fp6 a → g.toNat + 6 ≤ 512 →
      ∃ t u, exec (.stFp6 g rs1) s = .next t ∧ exec (.ldFp6 rd g) t = .next u ∧ u.reg rd = .fp6 a) ∧
    (∀ a : Fp12, s.reg rs1 = .fp12 a → g.toNat + 12 ≤ 512 →
      ∃ t u, exec (.stFp12 g rs1) s = .next t ∧ exec (.ldFp12 rd g) t = .next u ∧ u.reg rd = .fp12 a) ∧
    (∀ p : G1, s.reg rs1 = .g1 p → g1OnCurve p = true → g.toNat + 2 ≤ 512 →
      ∃ t u, exec (.stg1 g rs1) s = .next t ∧ exec (.ldg1 rd g) t = .next u ∧ u.reg rd = .g1 p) ∧
    (∀ p : G2, s.reg rs1 = .g2 p → g2OnCurve p = true → g.toNat + 4 ≤ 512 →
      ∃ t u, exec (.stg2 g rs1) s = .next t ∧ exec (.ldg2 rd g) t = .next u ∧ u.reg rd = .g2 p) ∧
    (∀ k : Scalar, s.reg rs1 = .sc k →
      ∃ t u, exec (.stsc g rs1) s = .next t ∧ exec (.ldsc rd g) t = .next u ∧ u.reg rd = .sc k)

/-! ## The Miller unit (48_pairing.md) -/

/-- R427: MLINIT sets every field of the Miller unit, in every ML_ST, for operands in any form; with O on either side
the loop is done at once. -/
def Obligations.MlinitResult : Prop :=
  ∀ (s : State) (rs1 rs2 : RegIdx) (m n : Form) (q : G2) (p : G1),
    s.reg rs1 = ofG2 m q → s.reg rs2 = ofG1 n p →
      exec (.mlinit rs1 rs2) s =
        .next (s.setMl { st := if p = .inf ∨ q = .inf then .done else .loop, i := 63, f := Fp12.one, t := q,
                         q := q, p := p, l := Fp12.one }).advance

/-- R422, R425: a LOOP step squares f, multiplies the tangent's line into it and doubles T; where bit ML_I of ATE is 1
it then multiplies the line through the doubled T and Q into f and adds Q; and it counts ML_I down, or goes to FROB1
after bit 0. T and Q are finite and not of order 2, P is finite. -/
def Obligations.MlstepLoop : Prop :=
  ∀ (s : State) (x y xq yq : Fp2) (xp yp : Fp), s.ml.st = .loop → s.ml.t = .aff x y → y ≠ Fp2.zero →
    s.ml.q = .aff xq yq → yq ≠ Fp2.zero → s.ml.p = .aff xp yp →
    ∃ (l1 : Fp12) (x2 y2 : Fp2), IsLine x y x y xp yp l1 ∧ g2Add (.aff x y) (.aff x y) = .aff x2 y2 ∧
      (Nat.testBit 29793968203157093288 s.ml.i.toNat = false →
        exec .mlstep s =
          .next (s.setMl (afterLoop s.ml ((s.ml.f.mul s.ml.f).mul l1) (.aff x2 y2) l1)).advance) ∧
      (Nat.testBit 29793968203157093288 s.ml.i.toNat = true →
        ∃ l2 : Fp12, IsLine x2 y2 xq yq xp yp l2 ∧
          exec .mlstep s =
            .next (s.setMl (afterLoop s.ml (((s.ml.f.mul s.ml.f).mul l1).mul l2)
              (g2Add (.aff x2 y2) (.aff xq yq)) l2)).advance)

/-- R391, R422, R426: the FROB1 step adds π1(Q) and the FROB2 step −π2(Q) to T, multiplying the line into f without
squaring it, and ML_ST goes to FROB2 and to DONE. The constants are R266's digits. -/
def Obligations.MlstepFrobenius : Prop :=
  ∀ (s : State) (x y xq yq : Fp2) (xp yp : Fp), s.ml.t = .aff x y → y ≠ Fp2.zero → s.ml.q = .aff xq yq →
    s.ml.p = .aff xp yp →
    (s.ml.st = .frob1 →
      ∃ (xs ys : Fp2) (l : Fp12),
        xs = (Fp2.conj xq).mul
          ⟨Fp.ofNat 21575463638280843010398324269430826099269044274347216827212613867836435027261,
           Fp.ofNat 10307601595873709700152284273816112264069230130616436755625194854815875713954⟩ ∧
        ys = (Fp2.conj yq).mul
          ⟨Fp.ofNat 2821565182194536844548159561693502659359617185244120367078079554186484126554,
           Fp.ofNat 3505843767911556378687030309984248845540243509899259641013678093033130930403⟩ ∧
        IsLine x y xs ys xp yp l ∧
        exec .mlstep s = .next (s.setMl { s.ml with
          f := s.ml.f.mul l
          t := g2Add (.aff x y) (.aff xs ys)
          l := l
          st := .frob2 }).advance) ∧
    (s.ml.st = .frob2 →
      ∃ (xs : Fp2) (l : Fp12),
        xs = xq.mul
          ⟨Fp.ofNat 21888242871839275220042445260109153167277707414472061641714758635765020556616, Fp.ofNat 0⟩ ∧
        IsLine x y xs yq xp yp l ∧
        exec .mlstep s = .next (s.setMl { s.ml with
          f := s.ml.f.mul l
          t := g2Add (.aff x y) (.aff xs yq)
          l := l
          st := .done }).advance)

/-- R424, R428, R485, R491: MLSTEP raises ML_STATE in IDLE and DONE, and ML_DEGENERATE with the state's code where T is O
in LOOP, FROB1 or FROB2, or where T has y = 0 in LOOP; the Miller unit is unchanged. -/
def Obligations.MlstepTraps : Prop :=
  ∀ s : State,
    (s.ml.st = .idle → exec .mlstep s = .next (s.faulted 9 0)) ∧
    (s.ml.st = .done → exec .mlstep s = .next (s.faulted 9 4)) ∧
    (s.ml.t = .inf → s.ml.st = .loop → exec .mlstep s = .next (s.faulted 10 1)) ∧
    (s.ml.t = .inf → s.ml.st = .frob1 → exec .mlstep s = .next (s.faulted 10 2)) ∧
    (s.ml.t = .inf → s.ml.st = .frob2 → exec .mlstep s = .next (s.faulted 10 3)) ∧
    (∀ x : Fp2, s.ml.t = .aff x Fp2.zero → s.ml.st = .loop → exec .mlstep s = .next (s.faulted 10 1))

/-- R13, R429: MILLER is MLINIT and then MLSTEP until DONE. Where the steps all complete, rd gets f and the Miller unit
is left as they leave it; with O on either side no step is made and rd gets 1; and where a step raises, the completed
steps stay committed, rd is not written and ML_DEGENERATE carries the failing step's state. -/
def Obligations.MillerResult : Prop :=
  ∀ (s : State) (rd rs1 rs2 : RegIdx) (m n : Form) (q : G2) (p : G1),
    s.reg rs1 = ofG2 m q → s.reg rs2 = ofG1 n p →
    (∀ (k : Nat) (u : Miller), millerStepN k (millerInit q p) = some u → u.st = .done →
      exec (.miller rd rs1 rs2) s = .next ((s.setMl u).setReg rd (.fp12 u.f)).advance) ∧
    (q = .inf ∨ p = .inf → exec (.miller rd rs1 rs2) s =
      .next ((s.setMl { st := .done, i := 63, f := Fp12.one, t := q, q := q, p := p,
                        l := Fp12.one }).setReg rd (.fp12 Fp12.one)).advance) ∧
    (∀ (k : Nat) (u : Miller) (e : Exc), millerStepN k (millerInit q p) = some u → u.st ≠ .done →
      millerStep u = .error e →
      exec (.miller rd rs1 rs2) s = .next ((s.setMl u).faulted 10 (BitVec.ofNat 32 u.st.code)))

/-- R434: a run of completed steps from MLINIT with finite inputs is in LOOP with ML_I = 63 − k after k < 64 steps, in
FROB1 after 64, in FROB2 after 65 and in DONE after exactly 66, and there is no 67th; ML_Q and ML_P stay. -/
def Obligations.MillerRunLength : Prop :=
  ∀ (q : G2) (p : G1) (k : Nat) (u : Miller), q ≠ .inf → p ≠ .inf → millerStepN k (millerInit q p) = some u →
    k ≤ 66 ∧ u.q = q ∧ u.p = p ∧
    (k < 64 → u.st = .loop ∧ u.i.toNat = 63 - k) ∧ (k = 64 → u.st = .frob1) ∧ (k = 65 → u.st = .frob2) ∧
    (k = 66 → u.st = .done)

/-- R430, R432, R433, R485: MLRDF, MLRDT and MLRDL read f, T (affine) and the last line value in every state but IDLE,
where they raise ML_STATE(0). -/
def Obligations.MillerReads : Prop :=
  ∀ (s : State) (rd : RegIdx),
    (s.ml.st ≠ .idle →
      exec (.mlrdf rd) s = .next (s.setReg rd (.fp12 s.ml.f)).advance ∧
      exec (.mlrdt rd) s = .next (s.setReg rd (.g2 s.ml.t)).advance ∧
      exec (.mlrdl rd) s = .next (s.setReg rd (.fp12 s.ml.l)).advance) ∧
    (s.ml.st = .idle →
      exec (.mlrdf rd) s = .next (s.faulted 9 0) ∧
      exec (.mlrdt rd) s = .next (s.faulted 9 0) ∧
      exec (.mlrdl rd) s = .next (s.faulted 9 0))

/-- R423: a line value is sparse: a NONVERT one has nonzero coefficients only at 0, 6, 7, 8 and 9 and coefficient 0 is
−yP, a VERT one only at 0, 2 and 3 and coefficient 0 is xP. -/
def Obligations.LineIsSparse : Prop :=
  ∀ (xt yt xs ys : Fp2) (xp yp : Fp) (l : Fp12), line (.aff xt yt) (.aff xs ys) (.aff xp yp) = some l →
    IsLine xt yt xs ys xp yp l ∧
    (((∀ k < 12, k ≠ 0 → k ≠ 6 → k ≠ 7 → k ≠ 8 → k ≠ 9 → (coeffAt l.coeffs k).val = 0) ∧
        (((coeffAt l.coeffs 0).val : Int) = (-(yp.val : Int)) % P)) ∨
      ((∀ k < 12, k ≠ 0 → k ≠ 2 → k ≠ 3 → (coeffAt l.coeffs k).val = 0) ∧ (coeffAt l.coeffs 0).val = xp.val))

/-! ## The final exponentiation (49_final_exp.md) -/

/-- R460, R461: FEXP of a nonzero f writes the product of E factors f, with E·r = P¹² − 1 exactly. -/
def Obligations.FexpResult : Prop :=
  ∀ (s : State) (rd rs1 : RegIdx) (f : Fp12), s.reg rs1 = .fp12 f → f ≠ Fp12.zero →
    ∃ e : Nat,
      e * 21888242871839275222246405745257275088548364400416034343698204186575808495617 = P ^ 12 - 1 ∧
      exec (.fexp rd rs1) s = .next (s.setReg rd (.fp12 ((fun x => x.mul f)^[e] Fp12.one))).advance

/-- R464: the result y of FEXP of a nonzero value has y^r = 1, as POW.FP12 by r shows; INV.FP12 and CONJ.FP12 agree on
it; and y^(P¹²) = y. -/
def Obligations.FexpProperties : Prop :=
  ∀ (s : State) (rd rs1 rk rp : RegIdx) (f : Fp12), rd ≠ rk → s.reg rs1 = .fp12 f → f ≠ Fp12.zero →
    s.reg rk = .sc 21888242871839275222246405745257275088548364400416034343698204186575808495617#256 →
    ∃ (t : State) (y v : Fp12), exec (.fexp rd rs1) s = .next t ∧ t.reg rd = .fp12 y ∧
      exec (.powFp12 rp rd rk) t = .next (t.setReg rp (.fp12 Fp12.one)).advance ∧
      exec (.invFp12 rp rd) t = .next (t.setReg rp (.fp12 v)).advance ∧
      exec (.conjFp12 rp rd) t = .next (t.setReg rp (.fp12 v)).advance ∧
      (fun x => x.mul y)^[P ^ 12] Fp12.one = y

/-- R461, two of its corner cases: FEXP is a homomorphism, and sends every nonzero value of the subfield Fp6 to 1. -/
def Obligations.FexpHomomorphism : Prop :=
  (∀ a b : Fp12, finalExp (a.mul b) = (finalExp a).mul (finalExp b)) ∧
  (∀ c : Fp6, c ≠ Fp6.zero → finalExp ⟨c, Fp6.zero⟩ = Fp12.one)

/-! ## The host (60_exceptions.md R496 to R504) -/

/-- R502: while BUSY a host access to IMEM, DMEM or PC is refused: a read returns 0, a write is dropped, and either way
HOSTERR is set and nothing else changes. `hostQ` and `rdata` are the model's (log entry 4). -/
def Obligations.HostRefusedWhileBusy : Prop :=
  ∀ (s : State) (off : BitVec 15) (q : List HostAct), s.run = .busy → refusedWhileBusy off →
    (s.hostQ = .read off :: q → step s = .next { s with hostQ := q, rdata := 0, hostErr := true }) ∧
    (∀ v : Word, s.hostQ = .write off v :: q → step s = .next { s with hostQ := q, hostErr := true })

/-- 10_state.md R43 to R51, 20_memory.md R83, R500: a host read that is not refused returns the word its offset names,
bits 1:0 of the offset ignored, and changes nothing; and the eight host words of a granule are the granule's
big-endian value cut into pieces. -/
def Obligations.HostReads : Prop :=
  (∀ (s : State) (off : BitVec 15) (q : List HostAct), s.hostQ = .read off :: q →
    ¬ (s.run = .busy ∧ refusedWhileBusy off) →
    ∃ w : Word, step s = .next { s with hostQ := q, rdata := w } ∧
      (off.toNat / 4 = 0 → w = 0x424E3534#32) ∧
      (off.toNat / 4 = 1 → w.toNat = 4 * s.irqEn.toNat) ∧
      (off.toNat / 4 = 2 → w.toNat = s.run.code + 4 * s.flag.toNat + 8 * s.irqPend.toNat +
        16 * s.hostErr.toNat + 32 * s.ml.st.code) ∧
      (off.toNat / 4 = 3 → w.toNat = s.cause.toNat) ∧
      (off.toNat / 4 = 4 → w.toNat = s.fpc.toNat) ∧
      (off.toNat / 4 = 5 → w = s.finsn) ∧
      (off.toNat / 4 = 6 → w.toNat = s.pc.toNat) ∧
      (off.toNat / 4 = 7 → w = s.finfo) ∧
      (∀ k < 512, off.toNat / 4 = 0x1000 / 4 + k → w = imemWord s k) ∧
      (∀ k < 4096, off.toNat / 4 = 0x4000 / 4 + k → w.toNat =
        (readByte s (4 * k)).toNat * 2 ^ 24 + (readByte s (4 * k + 1)).toNat * 2 ^ 16 +
        (readByte s (4 * k + 2)).toNat * 2 ^ 8 + (readByte s (4 * k + 3)).toNat) ∧
      (0x20 ≤ off.toNat → off.toNat < 0x1000 → w = 0) ∧
      (0x1800 ≤ off.toNat → off.toNat < 0x4000 → w = 0)) ∧
  (∀ (s : State) (g : Nat), word s g =
    ((List.range 8).map fun j => (dmemHostWord s (8 * g + j)).toNat * 2 ^ (32 * (7 - j))).sum)

/-- 10_state.md R46, R51, R500: a host write that is not refused writes PC's low ten bits, one word of IMEM, four bytes
of DMEM, or clears IRQ_PEND and HOSTERR where it has a 1; a write to a read-only or reserved offset is ignored. -/
def Obligations.HostWrites : Prop :=
  ∀ (s : State) (off : BitVec 15) (v : Word) (q : List HostAct), s.hostQ = .write off v :: q →
    ¬ (s.run = .busy ∧ refusedWhileBusy off) →
    (off.toNat / 4 = 2 → step s = .next { s with
      hostQ := q
      irqPend := if v.getLsbD 3 = true then false else s.irqPend
      hostErr := if v.getLsbD 4 = true then false else s.hostErr }) ∧
    (off.toNat / 4 = 6 → step s = .next { s with hostQ := q, pc := BitVec.ofNat 10 v.toNat }) ∧
    (∀ k < 512, off.toNat / 4 = 0x1000 / 4 + k →
      ∃ m : Imem, step s = .next { s with hostQ := q, imem := m } ∧
        ∀ j, imemWord { s with imem := m } j = if j = k then v else imemWord s j) ∧
    (∀ k < 4096, off.toNat / 4 = 0x4000 / 4 + k →
      ∃ m : Dmem, step s = .next { s with hostQ := q, dmem := m } ∧
        ∀ a, readByte { s with dmem := m } a =
          if 4 * k ≤ a ∧ a < 4 * k + 4 then BitVec.ofNat 8 (v.toNat / 256 ^ (3 - (a - 4 * k))) else readByte s a) ∧
    ((off.toNat / 4 = 0 ∨ off.toNat / 4 = 3 ∨ off.toNat / 4 = 4 ∨ off.toNat / 4 = 5 ∨ off.toNat / 4 = 7 ∨
        (0x20 ≤ off.toNat ∧ off.toNat < 0x1000) ∨ (0x1800 ≤ off.toNat ∧ off.toNat < 0x4000)) →
      step s = .next { s with hostQ := q })

/-- R503, R504: a host write of CTRL without SRESET sets IRQ_EN from bit 2; with START it makes the engine BUSY and
clears CAUSE, FPC, FINSN and FINFO, or, while BUSY, only sets HOSTERR; nothing else changes. That IRQ_EN is written also
by a START refused while BUSY is the model's reading of R504's order (log entry 19). -/
def Obligations.HostCtrlWrites : Prop :=
  ∀ (s : State) (off : BitVec 15) (v : Word) (q : List HostAct), s.hostQ = .write off v :: q →
    off.toNat / 4 = 1 → v.getLsbD 1 = false →
    (v.getLsbD 0 = false → step s = .next { s with hostQ := q, irqEn := v.getLsbD 2 }) ∧
    (v.getLsbD 0 = true → s.run = .busy →
      step s = .next { s with hostQ := q, irqEn := v.getLsbD 2, hostErr := true }) ∧
    (v.getLsbD 0 = true → s.run ≠ .busy →
      step s = .next { s with hostQ := q, irqEn := v.getLsbD 2, run := .busy, cause := 0, fpc := 0, finsn := 0,
                              finfo := 0 })

/-- R496, R512: a step sets IRQ_PEND only by leaving BUSY, into HALTED with CAUSE 0 unchanged or into FAULT with a cause,
and every step of the engine that leaves BUSY sets it; only a host write of 1 to STATUS bit 3 or a reset clears it. -/
def Obligations.IrqPendChanges : Prop :=
  ∀ s t : State, step s = .next t →
    (s.irqPend = false → t.irqPend = true → s.run = .busy ∧ (t.run = .halted ∨ t.run = .fault)) ∧
    (s.run = .busy → (t.run = .halted ∨ t.run = .fault) → t.irqPend = true ∧
      (t.run = .halted → t.cause = s.cause) ∧ (t.run = .fault → t.cause ≠ 0 ∧ t.pc = t.fpc)) ∧
    (s.irqPend = true → t.irqPend = false →
      (∃ q, s.hostQ = .powerOn :: q) ∨
      (∃ off v q, s.hostQ = .write off v :: q ∧
        ((off.toNat / 4 = 2 ∧ v.getLsbD 3 = true) ∨ (off.toNat / 4 = 1 ∧ v.getLsbD 1 = true))))

/-- 10_state.md R40, 70_reset_and_hazards.md R532: what the unspecified Miller fields hold while ML_ST = IDLE can never
be observed: two states that differ only there step to states that differ at most there again. -/
def Obligations.UnspecifiedMillerUnobservable : Prop :=
  ∀ s s' t t' : State, s.sameObservable s' → step s = .next t → step s' = .next t' → t.sameObservable t'

end Slice0
end

