-- ==== Sys2Proof/Laws/Curve.lean ====
section
/-! SUPPORT. The cases of the group law (46_g1.md R360), one equation each. -/

namespace Sys2Proof

variable {F : Type} (o : FieldOps F)

@[simp] theorem ptNeg_inf : ptNeg o .inf = .inf := rfl
@[simp] theorem ptNeg_aff (x y : F) : ptNeg o (.aff x y) = .aff x (o.neg y) := rfl

variable [DecidableEq F]

@[simp] theorem ptAdd_inf_left (b : Pt F) : ptAdd o .inf b = b := by cases b <;> rfl

theorem ptAdd_opposite {x y1 y2 : F} (h : o.add y1 y2 = o.zero) : ptAdd o (.aff x y1) (.aff x y2) = .inf := by
  simp [ptAdd, h]

theorem ptAdd_tangent {x y1 y2 : F} (h : o.add y1 y2 ≠ o.zero) :
    ptAdd o (.aff x y1) (.aff x y2) = thirdPoint o (tangentSlope o x y1) x y1 x := by
  simp [ptAdd, h]

theorem ptAdd_chord {x1 y1 x2 y2 : F} (h : x1 ≠ x2) :
    ptAdd o (.aff x1 y1) (.aff x2 y2) = thirdPoint o (chordSlope o x1 y1 x2 y2) x1 y1 x2 := by
  simp [ptAdd, h]

end Sys2Proof
end

