-- ==== Sys2Proof/Laws/State.lean ====
section
/-! SUPPORT. What each update of the state does to each field, one lemma a field, each true by unfolding; and what it
does to the reads of a register, a byte of DMEM and a word of IMEM. -/

namespace Sys2Proof.Machine

variable (s : State)

/-! ## setReg -/

@[simp] theorem setReg_regs (r : RegIdx) (v : RegVal) : (s.setReg r v).regs = s.regs.set r.toNat v r.isLt := rfl
@[simp] theorem setReg_flag (r : RegIdx) (v : RegVal) : (s.setReg r v).flag = s.flag := rfl
@[simp] theorem setReg_pc (r : RegIdx) (v : RegVal) : (s.setReg r v).pc = s.pc := rfl
@[simp] theorem setReg_imem (r : RegIdx) (v : RegVal) : (s.setReg r v).imem = s.imem := rfl
@[simp] theorem setReg_dmem (r : RegIdx) (v : RegVal) : (s.setReg r v).dmem = s.dmem := rfl
@[simp] theorem setReg_ml (r : RegIdx) (v : RegVal) : (s.setReg r v).ml = s.ml := rfl
@[simp] theorem setReg_run (r : RegIdx) (v : RegVal) : (s.setReg r v).run = s.run := rfl
@[simp] theorem setReg_irqEn (r : RegIdx) (v : RegVal) : (s.setReg r v).irqEn = s.irqEn := rfl
@[simp] theorem setReg_irqPend (r : RegIdx) (v : RegVal) : (s.setReg r v).irqPend = s.irqPend := rfl
@[simp] theorem setReg_hostErr (r : RegIdx) (v : RegVal) : (s.setReg r v).hostErr = s.hostErr := rfl
@[simp] theorem setReg_cause (r : RegIdx) (v : RegVal) : (s.setReg r v).cause = s.cause := rfl
@[simp] theorem setReg_fpc (r : RegIdx) (v : RegVal) : (s.setReg r v).fpc = s.fpc := rfl
@[simp] theorem setReg_finsn (r : RegIdx) (v : RegVal) : (s.setReg r v).finsn = s.finsn := rfl
@[simp] theorem setReg_finfo (r : RegIdx) (v : RegVal) : (s.setReg r v).finfo = s.finfo := rfl
@[simp] theorem setReg_hostQ (r : RegIdx) (v : RegVal) : (s.setReg r v).hostQ = s.hostQ := rfl
@[simp] theorem setReg_rdata (r : RegIdx) (v : RegVal) : (s.setReg r v).rdata = s.rdata := rfl
@[simp] theorem setReg_epoch (r : RegIdx) (v : RegVal) : (s.setReg r v).epoch = s.epoch := rfl
@[simp] theorem setReg_readByte (r : RegIdx) (v : RegVal) (k : Nat) : readByte (s.setReg r v) k = readByte s k := rfl
@[simp] theorem setReg_word (r : RegIdx) (v : RegVal) (g : Nat) : word (s.setReg r v) g = word s g := rfl
@[simp] theorem setReg_imemWord (r : RegIdx) (v : RegVal) (k : Nat) : imemWord (s.setReg r v) k = imemWord s k := rfl

/-! ## setFlag -/

@[simp] theorem setFlag_regs (b : Bool) : (s.setFlag b).regs = s.regs := rfl
@[simp] theorem setFlag_flag (b : Bool) : (s.setFlag b).flag = b := rfl
@[simp] theorem setFlag_pc (b : Bool) : (s.setFlag b).pc = s.pc := rfl
@[simp] theorem setFlag_imem (b : Bool) : (s.setFlag b).imem = s.imem := rfl
@[simp] theorem setFlag_dmem (b : Bool) : (s.setFlag b).dmem = s.dmem := rfl
@[simp] theorem setFlag_ml (b : Bool) : (s.setFlag b).ml = s.ml := rfl
@[simp] theorem setFlag_run (b : Bool) : (s.setFlag b).run = s.run := rfl
@[simp] theorem setFlag_irqEn (b : Bool) : (s.setFlag b).irqEn = s.irqEn := rfl
@[simp] theorem setFlag_irqPend (b : Bool) : (s.setFlag b).irqPend = s.irqPend := rfl
@[simp] theorem setFlag_hostErr (b : Bool) : (s.setFlag b).hostErr = s.hostErr := rfl
@[simp] theorem setFlag_cause (b : Bool) : (s.setFlag b).cause = s.cause := rfl
@[simp] theorem setFlag_fpc (b : Bool) : (s.setFlag b).fpc = s.fpc := rfl
@[simp] theorem setFlag_finsn (b : Bool) : (s.setFlag b).finsn = s.finsn := rfl
@[simp] theorem setFlag_finfo (b : Bool) : (s.setFlag b).finfo = s.finfo := rfl
@[simp] theorem setFlag_hostQ (b : Bool) : (s.setFlag b).hostQ = s.hostQ := rfl
@[simp] theorem setFlag_rdata (b : Bool) : (s.setFlag b).rdata = s.rdata := rfl
@[simp] theorem setFlag_epoch (b : Bool) : (s.setFlag b).epoch = s.epoch := rfl
@[simp] theorem setFlag_reg (b : Bool) (r : RegIdx) : (s.setFlag b).reg r = s.reg r := rfl
@[simp] theorem setFlag_readByte (b : Bool) (k : Nat) : readByte (s.setFlag b) k = readByte s k := rfl
@[simp] theorem setFlag_word (b : Bool) (g : Nat) : word (s.setFlag b) g = word s g := rfl
@[simp] theorem setFlag_imemWord (b : Bool) (k : Nat) : imemWord (s.setFlag b) k = imemWord s k := rfl

/-! ## setDmem -/

@[simp] theorem setDmem_regs (m : Dmem) : (s.setDmem m).regs = s.regs := rfl
@[simp] theorem setDmem_flag (m : Dmem) : (s.setDmem m).flag = s.flag := rfl
@[simp] theorem setDmem_pc (m : Dmem) : (s.setDmem m).pc = s.pc := rfl
@[simp] theorem setDmem_imem (m : Dmem) : (s.setDmem m).imem = s.imem := rfl
@[simp] theorem setDmem_dmem (m : Dmem) : (s.setDmem m).dmem = m := rfl
@[simp] theorem setDmem_ml (m : Dmem) : (s.setDmem m).ml = s.ml := rfl
@[simp] theorem setDmem_run (m : Dmem) : (s.setDmem m).run = s.run := rfl
@[simp] theorem setDmem_irqEn (m : Dmem) : (s.setDmem m).irqEn = s.irqEn := rfl
@[simp] theorem setDmem_irqPend (m : Dmem) : (s.setDmem m).irqPend = s.irqPend := rfl
@[simp] theorem setDmem_hostErr (m : Dmem) : (s.setDmem m).hostErr = s.hostErr := rfl
@[simp] theorem setDmem_cause (m : Dmem) : (s.setDmem m).cause = s.cause := rfl
@[simp] theorem setDmem_fpc (m : Dmem) : (s.setDmem m).fpc = s.fpc := rfl
@[simp] theorem setDmem_finsn (m : Dmem) : (s.setDmem m).finsn = s.finsn := rfl
@[simp] theorem setDmem_finfo (m : Dmem) : (s.setDmem m).finfo = s.finfo := rfl
@[simp] theorem setDmem_hostQ (m : Dmem) : (s.setDmem m).hostQ = s.hostQ := rfl
@[simp] theorem setDmem_rdata (m : Dmem) : (s.setDmem m).rdata = s.rdata := rfl
@[simp] theorem setDmem_epoch (m : Dmem) : (s.setDmem m).epoch = s.epoch := rfl
@[simp] theorem setDmem_reg (m : Dmem) (r : RegIdx) : (s.setDmem m).reg r = s.reg r := rfl
@[simp] theorem setDmem_imemWord (m : Dmem) (k : Nat) : imemWord (s.setDmem m) k = imemWord s k := rfl

/-! ## setMl -/

@[simp] theorem setMl_regs (u : Miller) : (s.setMl u).regs = s.regs := rfl
@[simp] theorem setMl_flag (u : Miller) : (s.setMl u).flag = s.flag := rfl
@[simp] theorem setMl_pc (u : Miller) : (s.setMl u).pc = s.pc := rfl
@[simp] theorem setMl_imem (u : Miller) : (s.setMl u).imem = s.imem := rfl
@[simp] theorem setMl_dmem (u : Miller) : (s.setMl u).dmem = s.dmem := rfl
@[simp] theorem setMl_ml (u : Miller) : (s.setMl u).ml = u := rfl
@[simp] theorem setMl_run (u : Miller) : (s.setMl u).run = s.run := rfl
@[simp] theorem setMl_irqEn (u : Miller) : (s.setMl u).irqEn = s.irqEn := rfl
@[simp] theorem setMl_irqPend (u : Miller) : (s.setMl u).irqPend = s.irqPend := rfl
@[simp] theorem setMl_hostErr (u : Miller) : (s.setMl u).hostErr = s.hostErr := rfl
@[simp] theorem setMl_cause (u : Miller) : (s.setMl u).cause = s.cause := rfl
@[simp] theorem setMl_fpc (u : Miller) : (s.setMl u).fpc = s.fpc := rfl
@[simp] theorem setMl_finsn (u : Miller) : (s.setMl u).finsn = s.finsn := rfl
@[simp] theorem setMl_finfo (u : Miller) : (s.setMl u).finfo = s.finfo := rfl
@[simp] theorem setMl_hostQ (u : Miller) : (s.setMl u).hostQ = s.hostQ := rfl
@[simp] theorem setMl_rdata (u : Miller) : (s.setMl u).rdata = s.rdata := rfl
@[simp] theorem setMl_epoch (u : Miller) : (s.setMl u).epoch = s.epoch := rfl
@[simp] theorem setMl_reg (u : Miller) (r : RegIdx) : (s.setMl u).reg r = s.reg r := rfl
@[simp] theorem setMl_readByte (u : Miller) (k : Nat) : readByte (s.setMl u) k = readByte s k := rfl
@[simp] theorem setMl_word (u : Miller) (g : Nat) : word (s.setMl u) g = word s g := rfl
@[simp] theorem setMl_imemWord (u : Miller) (k : Nat) : imemWord (s.setMl u) k = imemWord s k := rfl

/-! ## goto -/

@[simp] theorem goto_regs (a : BitVec 10) : (s.goto a).regs = s.regs := rfl
@[simp] theorem goto_flag (a : BitVec 10) : (s.goto a).flag = s.flag := rfl
@[simp] theorem goto_pc (a : BitVec 10) : (s.goto a).pc = a := rfl
@[simp] theorem goto_imem (a : BitVec 10) : (s.goto a).imem = s.imem := rfl
@[simp] theorem goto_dmem (a : BitVec 10) : (s.goto a).dmem = s.dmem := rfl
@[simp] theorem goto_ml (a : BitVec 10) : (s.goto a).ml = s.ml := rfl
@[simp] theorem goto_run (a : BitVec 10) : (s.goto a).run = s.run := rfl
@[simp] theorem goto_irqEn (a : BitVec 10) : (s.goto a).irqEn = s.irqEn := rfl
@[simp] theorem goto_irqPend (a : BitVec 10) : (s.goto a).irqPend = s.irqPend := rfl
@[simp] theorem goto_hostErr (a : BitVec 10) : (s.goto a).hostErr = s.hostErr := rfl
@[simp] theorem goto_cause (a : BitVec 10) : (s.goto a).cause = s.cause := rfl
@[simp] theorem goto_fpc (a : BitVec 10) : (s.goto a).fpc = s.fpc := rfl
@[simp] theorem goto_finsn (a : BitVec 10) : (s.goto a).finsn = s.finsn := rfl
@[simp] theorem goto_finfo (a : BitVec 10) : (s.goto a).finfo = s.finfo := rfl
@[simp] theorem goto_hostQ (a : BitVec 10) : (s.goto a).hostQ = s.hostQ := rfl
@[simp] theorem goto_rdata (a : BitVec 10) : (s.goto a).rdata = s.rdata := rfl
@[simp] theorem goto_epoch (a : BitVec 10) : (s.goto a).epoch = s.epoch := rfl
@[simp] theorem goto_reg (a : BitVec 10) (r : RegIdx) : (s.goto a).reg r = s.reg r := rfl
@[simp] theorem goto_readByte (a : BitVec 10) (k : Nat) : readByte (s.goto a) k = readByte s k := rfl
@[simp] theorem goto_word (a : BitVec 10) (g : Nat) : word (s.goto a) g = word s g := rfl
@[simp] theorem goto_imemWord (a : BitVec 10) (k : Nat) : imemWord (s.goto a) k = imemWord s k := rfl

/-! ## advance -/

@[simp] theorem advance_regs : (s.advance).regs = s.regs := rfl
@[simp] theorem advance_flag : (s.advance).flag = s.flag := rfl
@[simp] theorem advance_pc : (s.advance).pc = s.pc + 1 := rfl
@[simp] theorem advance_imem : (s.advance).imem = s.imem := rfl
@[simp] theorem advance_dmem : (s.advance).dmem = s.dmem := rfl
@[simp] theorem advance_ml : (s.advance).ml = s.ml := rfl
@[simp] theorem advance_run : (s.advance).run = s.run := rfl
@[simp] theorem advance_irqEn : (s.advance).irqEn = s.irqEn := rfl
@[simp] theorem advance_irqPend : (s.advance).irqPend = s.irqPend := rfl
@[simp] theorem advance_hostErr : (s.advance).hostErr = s.hostErr := rfl
@[simp] theorem advance_cause : (s.advance).cause = s.cause := rfl
@[simp] theorem advance_fpc : (s.advance).fpc = s.fpc := rfl
@[simp] theorem advance_finsn : (s.advance).finsn = s.finsn := rfl
@[simp] theorem advance_finfo : (s.advance).finfo = s.finfo := rfl
@[simp] theorem advance_hostQ : (s.advance).hostQ = s.hostQ := rfl
@[simp] theorem advance_rdata : (s.advance).rdata = s.rdata := rfl
@[simp] theorem advance_epoch : (s.advance).epoch = s.epoch := rfl
@[simp] theorem advance_reg (r : RegIdx) : (s.advance).reg r = s.reg r := rfl
@[simp] theorem advance_readByte (k : Nat) : readByte (s.advance) k = readByte s k := rfl
@[simp] theorem advance_word (g : Nat) : word (s.advance) g = word s g := rfl
@[simp] theorem advance_imemWord (k : Nat) : imemWord (s.advance) k = imemWord s k := rfl

/-! ## trap -/

@[simp] theorem trap_regs (e : Exc) : (trap e s).regs = s.regs := rfl
@[simp] theorem trap_flag (e : Exc) : (trap e s).flag = s.flag := rfl
@[simp] theorem trap_pc (e : Exc) : (trap e s).pc = s.pc := rfl
@[simp] theorem trap_imem (e : Exc) : (trap e s).imem = s.imem := rfl
@[simp] theorem trap_dmem (e : Exc) : (trap e s).dmem = s.dmem := rfl
@[simp] theorem trap_ml (e : Exc) : (trap e s).ml = s.ml := rfl
@[simp] theorem trap_run (e : Exc) : (trap e s).run = .fault := rfl
@[simp] theorem trap_irqEn (e : Exc) : (trap e s).irqEn = s.irqEn := rfl
@[simp] theorem trap_irqPend (e : Exc) : (trap e s).irqPend = true := rfl
@[simp] theorem trap_hostErr (e : Exc) : (trap e s).hostErr = s.hostErr := rfl
@[simp] theorem trap_cause (e : Exc) : (trap e s).cause = e.code := rfl
@[simp] theorem trap_fpc (e : Exc) : (trap e s).fpc = s.pc := rfl
@[simp] theorem trap_finsn (e : Exc) : (trap e s).finsn = fetchedWord s := rfl
@[simp] theorem trap_finfo (e : Exc) : (trap e s).finfo = e.info := rfl
@[simp] theorem trap_hostQ (e : Exc) : (trap e s).hostQ = s.hostQ := rfl
@[simp] theorem trap_rdata (e : Exc) : (trap e s).rdata = s.rdata := rfl
@[simp] theorem trap_epoch (e : Exc) : (trap e s).epoch = s.epoch := rfl
@[simp] theorem trap_reg (e : Exc) (r : RegIdx) : (trap e s).reg r = s.reg r := rfl
@[simp] theorem trap_readByte (e : Exc) (k : Nat) : readByte (trap e s) k = readByte s k := rfl
@[simp] theorem trap_word (e : Exc) (g : Nat) : word (trap e s) g = word s g := rfl
@[simp] theorem trap_imemWord (e : Exc) (k : Nat) : imemWord (trap e s) k = imemWord s k := rfl

/-! ## The register file -/

@[simp] theorem reg_setReg_self (r : RegIdx) (v : RegVal) : (s.setReg r v).reg r = v := by
  simp [State.reg, State.setReg]

theorem reg_setReg_ne {r r' : RegIdx} (v : RegVal) (h : r' ≠ r) : (s.setReg r v).reg r' = s.reg r' := by
  have hn : r.toNat ≠ r'.toNat := fun e => h (BitVec.eq_of_toNat_eq e.symm)
  simp [State.reg, State.setReg, hn]

theorem reg_setReg (r r' : RegIdx) (v : RegVal) :
    (s.setReg r v).reg r' = if r' = r then v else s.reg r' := by
  split
  · next h => subst h; exact reg_setReg_self s _ v
  · next h => exact reg_setReg_ne s v h

@[simp] theorem reset_reg (r : RegIdx) : State.reset.reg r = .empty := by
  simp [State.reg, State.reset]

end Sys2Proof.Machine
end

