-- ==== Sys2Proof/Laws/Ops.lean ====
section
/-! SUPPORT. What the shared operations can do, once each: memories (read after write, canonical form), byte order,
and the ways an instruction commits. -/

namespace Sys2Proof.Machine

/-! ## Memories -/

section Mem
variable {α : Type}

@[simp] theorem Memory.get?_set_self (m : Memory α) (a : Nat) (v : α) :
    Memory.get? (Memory.set m a v) a = some v := by
  induction m with
  | nil => simp [Memory.set, Memory.get?]
  | cons c m ih =>
    obtain ⟨k, w⟩ := c
    simp only [Memory.set]
    split
    · simp [Memory.get?]
    · split
      · simp [Memory.get?]
      · simp [Memory.get?, *]

theorem Memory.get?_set_ne (m : Memory α) {a b : Nat} (v : α) (h : b ≠ a) :
    Memory.get? (Memory.set m a v) b = Memory.get? m b := by
  induction m with
  | nil => simp [Memory.set, Memory.get?, h]
  | cons c m ih =>
    obtain ⟨k, w⟩ := c
    simp only [Memory.set]
    split
    · simp [Memory.get?, h]
    · split
      · next _ e => subst e; simp [Memory.get?, h]
      · simp [Memory.get?, ih]

/-- A write of consecutive cells is read back inside the range and leaves every other cell alone. -/
theorem Memory.get?_setMany (vs : List α) (m : Memory α) (a b : Nat) :
    Memory.get? (Memory.setMany m a vs) b =
      if a ≤ b ∧ b < a + vs.length then vs[b - a]? else Memory.get? m b := by
  induction vs generalizing m a with
  | nil => simp [Memory.setMany]
  | cons v vs ih =>
    rw [Memory.setMany, ih]
    by_cases hb : b = a
    · subst hb; simp [Memory.get?_set_self]
    · rw [Memory.get?_set_ne _ _ hb]
      by_cases hin : a ≤ b ∧ b < a + (v :: vs).length
      · have h1 : a + 1 ≤ b ∧ b < a + 1 + vs.length := by
          simp only [List.length_cons] at hin; omega
        have h2 : b - a = b - (a + 1) + 1 := by omega
        rw [if_pos h1, if_pos hin, h2, List.getElem?_cons_succ]
      · have h1 : ¬ (a + 1 ≤ b ∧ b < a + 1 + vs.length) := by
          simp only [List.length_cons] at hin; omega
        rw [if_neg h1, if_neg hin]

theorem Memory.wfFrom_set (size : Nat) (m : Memory α) (lo a : Nat) (v : α) (hlo : lo ≤ a) (ha : a < size)
    (h : Memory.wfFrom size lo m = true) : Memory.wfFrom size lo (Memory.set m a v) = true := by
  induction m generalizing lo with
  | nil => simp [Memory.set, Memory.wfFrom, hlo, ha]
  | cons c m ih =>
    obtain ⟨k, w⟩ := c
    simp only [Memory.wfFrom, Bool.and_eq_true, decide_eq_true_eq] at h
    obtain ⟨⟨hk, hks⟩, ht⟩ := h
    simp only [Memory.set]
    split
    · next hlt => simp [Memory.wfFrom, hlo, ha, hks, ht, Nat.succ_le_of_lt hlt]
    · split
      · next _ e => subst e; simp [Memory.wfFrom, hlo, ha, ht]
      · next h1 h2 => simp [Memory.wfFrom, hk, hks, ih (k + 1) (by omega) ht]

/-- A write inside the memory keeps its canonical form. -/
theorem Memory.wf_set {size : Nat} {m : Memory α} {a : Nat} (v : α) (ha : a < size)
    (h : Memory.wf size m = true) : Memory.wf size (Memory.set m a v) = true :=
  Memory.wfFrom_set size m 0 a v (Nat.zero_le a) ha h

theorem Memory.wf_setMany {size : Nat} (vs : List α) {m : Memory α} {a : Nat} (ha : a + vs.length ≤ size)
    (h : Memory.wf size m = true) : Memory.wf size (Memory.setMany m a vs) = true := by
  induction vs generalizing m a with
  | nil => exact h
  | cons v vs ih =>
    simp only [List.length_cons] at ha
    exact ih (by omega) (Memory.wf_set v (by omega) h)

@[simp] theorem Memory.wf_nil (size : Nat) : Memory.wf size ([] : Memory α) = true := rfl

end Mem

theorem reset_memories_wf :
    Memory.wf Config.imemWords State.reset.imem = true ∧ Memory.wf Config.dmemBytes State.reset.dmem = true :=
  ⟨rfl, rfl⟩

/-! ## Byte order -/

@[simp] theorem length_beBytes (n v : Nat) : (beBytes n v).length = n := by
  induction n with
  | zero => rfl
  | succ n ih => simp [beBytes, ih]

theorem beValue_foldl (bs : List Byte) (acc : Nat) :
    bs.foldl (fun acc b => acc * 256 + b.toNat) acc = acc * 256 ^ bs.length + beValue bs := by
  induction bs generalizing acc with
  | nil => simp [beValue]
  | cons b bs ih =>
    simp only [beValue, List.foldl_cons, List.length_cons]
    rw [ih, ih (0 * 256 + b.toNat)]
    ring

theorem beValue_cons (b : Byte) (bs : List Byte) : beValue (b :: bs) = b.toNat * 256 ^ bs.length + beValue bs := by
  have := beValue_foldl bs (0 * 256 + b.toNat)
  simpa [beValue] using this

/-- The big-endian bytes of a value have that value, modulo their width. -/
theorem beValue_beBytes (n v : Nat) : beValue (beBytes n v) = v % 256 ^ n := by
  induction n with
  | zero => simp [beBytes, beValue, Nat.mod_one]
  | succ n ih =>
    have hm : v % (256 ^ n * 256) = v % 256 ^ n + 256 ^ n * (v / 256 ^ n % 256) := Nat.mod_mul
    rw [beBytes, beValue_cons, ih, length_beBytes, BitVec.toNat_ofNat, Nat.pow_succ 256, hm, Nat.add_comm,
      Nat.mul_comm (256 ^ n)]

theorem beValue_lt (bs : List Byte) : beValue bs < 256 ^ bs.length := by
  induction bs with
  | nil => simp [beValue]
  | cons b bs ih =>
    rw [beValue_cons, List.length_cons, pow_succ]
    have hb : b.toNat < 256 := b.isLt
    nlinarith

@[simp] theorem length_readBytes (s : State) (a n : Nat) : (readBytes s a n).length = n := by simp [readBytes]

/-- A granule holds a 256-bit value. -/
theorem word_lt (s : State) (g : Nat) : word s g < 2 ^ 256 := by
  have h := beValue_lt (readBytes s (32 * g) 32)
  rw [length_readBytes] at h
  exact lt_of_lt_of_eq h (by norm_num)

/-! ## DMEM writes -/

/-- Reading one byte after `SetWord`. -/
theorem readByte_setWord (s : State) (g v a : Nat) :
    readByte (s.setDmem (setWord s.dmem g v)) a =
      if 32 * g ≤ a ∧ a < 32 * g + 32 then (beBytes 32 v).getD (a - 32 * g) 0 else readByte s a := by
  simp only [readByte, setDmem_dmem, setDmem_epoch, setWord, Memory.get?_setMany, length_beBytes]
  by_cases h : 32 * g ≤ a ∧ a < 32 * g + 32
  · have hl : a - 32 * g < (beBytes 32 v).length := by rw [length_beBytes]; omega
    rw [if_pos h, if_pos h, List.getD_eq_getElem?_getD, List.getElem?_eq_getElem hl]
    rfl
  · rw [if_neg h, if_neg h]

/-- `Word(g)` after `SetWord(g, v)` is v, and every other granule is as before. -/
theorem word_setWord (s : State) (g v h : Nat) (hv : v < 2 ^ 256) :
    word (s.setDmem (setWord s.dmem g v)) h = if h = g then v else word s h := by
  have hb : ∀ i, i < 32 → readByte (s.setDmem (setWord s.dmem g v)) (32 * h + i) =
      if h = g then (beBytes 32 v).getD i 0 else readByte s (32 * h + i) := by
    intro i hi
    rw [readByte_setWord]
    by_cases e : h = g
    · subst e
      rw [if_pos (by omega), if_pos rfl]
      congr 1
      omega
    · rw [if_neg (by omega), if_neg e]
  by_cases e : h = g
  · have hr : readBytes (s.setDmem (setWord s.dmem g v)) (32 * h) 32 = beBytes 32 v := by
      apply List.ext_getElem
      · simp
      · intro i h1 h2
        rw [length_readBytes] at h1
        have hbi := hb i h1
        rw [if_pos e, List.getD_eq_getElem?_getD, List.getElem?_eq_getElem h2] at hbi
        simpa [readBytes] using hbi
    rw [word, hr, beValue_beBytes, if_pos e, Nat.mod_eq_of_lt]
    exact lt_of_lt_of_eq hv (by norm_num)
  · have hr : readBytes (s.setDmem (setWord s.dmem g v)) (32 * h) 32 = readBytes s (32 * h) 32 := by
      apply List.ext_getElem
      · simp
      · intro i h1 _
        rw [length_readBytes] at h1
        simp [readBytes, hb i h1, e]
    rw [word, hr, if_neg e, word]

theorem wf_setWord {m : Dmem} {g : Nat} (v : Nat) (hg : g < Config.granules)
    (h : Memory.wf Config.dmemBytes m = true) : Memory.wf Config.dmemBytes (setWord m g v) = true := by
  apply Memory.wf_setMany _ _ h
  simp only [Config.granules] at hg
  simp only [length_beBytes, Config.dmemBytes]
  omega

theorem setWords_cons (m : Dmem) (g v : Nat) (vs : List Nat) :
    setWords m g (v :: vs) = setWords (setWord m g v) (g + 1) vs := by rw [setWords]

/-- A store inside the granules keeps DMEM's canonical form. -/
theorem wf_setWords (vs : List Nat) {m : Dmem} {g : Nat} (hg : g + vs.length ≤ Config.granules)
    (h : Memory.wf Config.dmemBytes m = true) : Memory.wf Config.dmemBytes (setWords m g vs) = true := by
  induction vs generalizing m g with
  | nil => exact h
  | cons v vs ih =>
    simp only [List.length_cons] at hg
    rw [setWords_cons]
    exact ih (by omega) (wf_setWord v (by omega) h)

theorem setDmem_setDmem (s : State) (m m' : Dmem) : (s.setDmem m).setDmem m' = s.setDmem m' := rfl

/-- A store of several words is a store of the first, then of the rest. -/
theorem setDmem_setWords_cons (s : State) (g v : Nat) (vs : List Nat) :
    s.setDmem (setWords s.dmem g (v :: vs)) =
      (s.setDmem (setWord s.dmem g v)).setDmem
        (setWords (s.setDmem (setWord s.dmem g v)).dmem (g + 1) vs) := by
  rw [setWords_cons, setDmem_setDmem, setDmem_dmem]

/-- What `setWords` leaves in each granule. -/
theorem word_setWords (vs : List Nat) (s : State) (g h : Nat) (hv : ∀ v ∈ vs, v < 2 ^ 256) :
    word (s.setDmem (setWords s.dmem g vs)) h =
      if g ≤ h ∧ h < g + vs.length then vs.getD (h - g) 0 else word s h := by
  induction vs generalizing s g with
  | nil =>
    rw [if_neg (by simp only [List.length_nil]; omega)]
    rfl
  | cons v vs ih =>
    rw [setDmem_setWords_cons, ih _ _ (fun x hx => hv x (List.mem_cons_of_mem v hx)),
      word_setWord _ _ _ _ (hv v List.mem_cons_self)]
    by_cases e : h = g
    · subst e
      rw [if_neg (by omega), if_pos rfl, if_pos ⟨le_refl h, by simp⟩]
      simp
    · by_cases hin : g + 1 ≤ h ∧ h < g + 1 + vs.length
      · have h2 : h - g = h - (g + 1) + 1 := by omega
        rw [if_pos hin, if_pos (by simp only [List.length_cons]; omega), h2, List.getD_cons_succ]
      · rw [if_neg hin, if_neg e, if_neg (by simp only [List.length_cons]; omega)]

/-- A store leaves every byte outside its granules alone. -/
theorem readByte_setWords (vs : List Nat) (s : State) (g a : Nat) (ha : ¬ (32 * g ≤ a ∧ a < 32 * (g + vs.length))) :
    readByte (s.setDmem (setWords s.dmem g vs)) a = readByte s a := by
  induction vs generalizing s g with
  | nil => rfl
  | cons v vs ih =>
    simp only [List.length_cons] at ha
    rw [setDmem_setWords_cons, ih _ _ (by omega), readByte_setWord, if_neg (by omega)]

/-! ## How an instruction commits -/

theorem commitReg_next {rd : RegIdx} {r : Except Exc RegVal} {s t : State} (h : commitReg rd r s = .next t) :
    (∃ v, r = .ok v ∧ t = (s.setReg rd v).advance) ∨ ∃ e, r = .error e ∧ t = trap e s := by
  cases r with
  | ok v => exact .inl ⟨v, rfl, by simpa [commitReg] using h.symm⟩
  | error e => exact .inr ⟨e, rfl, by simpa [commitReg] using h.symm⟩

theorem commitFlag_next {r : Except Exc Bool} {s t : State} (h : commitFlag r s = .next t) :
    (∃ b, r = .ok b ∧ t = (s.setFlag b).advance) ∨ ∃ e, r = .error e ∧ t = trap e s := by
  cases r with
  | ok v => exact .inl ⟨v, rfl, by simpa [commitFlag] using h.symm⟩
  | error e => exact .inr ⟨e, rfl, by simpa [commitFlag] using h.symm⟩

theorem commitDmem_next {r : Except Exc Dmem} {s t : State} (h : commitDmem r s = .next t) :
    (∃ m, r = .ok m ∧ t = (s.setDmem m).advance) ∨ ∃ e, r = .error e ∧ t = trap e s := by
  cases r with
  | ok v => exact .inl ⟨v, rfl, by simpa [commitDmem] using h.symm⟩
  | error e => exact .inr ⟨e, rfl, by simpa [commitDmem] using h.symm⟩

theorem commitMl_next {r : Except Exc Miller} {s t : State} (h : commitMl r s = .next t) :
    (∃ u, r = .ok u ∧ t = (s.setMl u).advance) ∨ ∃ e, r = .error e ∧ t = trap e s := by
  cases r with
  | ok v => exact .inl ⟨v, rfl, by simpa [commitMl] using h.symm⟩
  | error e => exact .inr ⟨e, rfl, by simpa [commitMl] using h.symm⟩

end Sys2Proof.Machine
end

