-- ==== Sys2Proof/Laws/Step.lean ====
section
/-! SUPPORT. Everything a fetch, an engine cycle and a step can do, once each (60_exceptions.md R486, R501), and what
the shared parts of the Miller unit, of EQ and of the host's accesses can answer. -/

namespace Sys2Proof.Machine

variable {s t : State}

/-! ## Fetch and the cycle -/

/-- Everything `fetch` can answer. -/
theorem fetch_cases (s : State) :
    (∃ i, s.pc.toNat < Config.imemWords ∧ decode (imemWord s s.pc.toNat) = .ok i ∧ fetch s = .ok i) ∨
    (∃ why, s.pc.toNat < Config.imemWords ∧ decode (imemWord s s.pc.toNat) = .illegal why ∧
      fetch s = .error .illegalInsn) ∨
    (¬ s.pc.toNat < Config.imemWords ∧ fetch s = .error (.fetchBounds s.pc)) := by
  by_cases h : s.pc.toNat < Config.imemWords
  · cases hd : decode (imemWord s s.pc.toNat) with
    | ok i => exact .inl ⟨i, h, rfl, by simp [fetch, h, hd]⟩
    | illegal why => exact .inr (.inl ⟨why, h, rfl, by simp [fetch, h, hd]⟩)
  · exact .inr (.inr ⟨h, by simp [fetch, h]⟩)

/-- Everything an engine cycle can do. -/
theorem engineStep_cases (h : engineStep s = .next t) :
    (s.run ≠ .busy ∧ t = s) ∨ (s.run = .busy ∧ ∃ e, fetch s = .error e ∧ t = trap e s) ∨
    (s.run = .busy ∧ ∃ i, fetch s = .ok i ∧ exec i s = .next t) := by
  unfold engineStep at h
  split at h
  · next hb =>
    cases hf : fetch s with
    | ok i => rw [hf] at h; exact .inr (.inr ⟨hb, i, rfl, h⟩)
    | error e => rw [hf] at h; exact .inr (.inl ⟨hb, e, rfl, by simpa using h.symm⟩)
  · next hb => exact .inl ⟨hb, by simpa using h.symm⟩

/-- Everything a step can do: an engine cycle, with or without a `pass` before it, or one action of the host. -/
theorem step_cases (h : step s = .next t) :
    (s.hostQ = [] ∧ engineStep s = .next t) ∨
    ∃ q, (s.hostQ = .pass :: q ∧ engineStep { s with hostQ := q } = .next t) ∨
      (∃ off, s.hostQ = .read off :: q ∧ t = hostRead off { s with hostQ := q }) ∨
      (∃ off v, s.hostQ = .write off v :: q ∧ t = hostWrite off v { s with hostQ := q }) ∨
      (s.hostQ = .powerOn :: q ∧ t = powerOnReset { s with hostQ := q }) := by
  unfold step at h
  split at h
  · next hq => exact .inl ⟨hq, h⟩
  · next q hq => exact .inr ⟨q, .inl ⟨hq, h⟩⟩
  · next off q hq => exact .inr ⟨q, .inr (.inl ⟨off, hq, by simpa using h.symm⟩)⟩
  · next off v q hq => exact .inr ⟨q, .inr (.inr (.inl ⟨off, v, hq, by simpa using h.symm⟩))⟩
  · next q hq => exact .inr ⟨q, .inr (.inr (.inr ⟨hq, by simpa using h.symm⟩))⟩

/-! ## EQ -/

/-- Everything EQ's checks can answer (40_control.md R157). -/
theorem eqFlag_cases (s : State) (r1 r2 : RegIdx) :
    (s.reg r1 = .empty ∧ eqFlag s r1 r2 = .error (.emptyRead r1)) ∨
    (s.reg r1 ≠ .empty ∧ s.reg r2 = .empty ∧ eqFlag s r1 r2 = .error (.emptyRead r2)) ∨
    (s.reg r1 ≠ .empty ∧ s.reg r2 ≠ .empty ∧ (s.reg r1).tag.kind ≠ (s.reg r2).tag.kind ∧
      eqFlag s r1 r2 = .error (.typeMismatch r2)) ∨
    (s.reg r1 ≠ .empty ∧ s.reg r2 ≠ .empty ∧ (s.reg r1).tag.kind = (s.reg r2).tag.kind ∧
      eqFlag s r1 r2 = .ok (sameValue (s.reg r1) (s.reg r2))) := by
  by_cases h1 : s.reg r1 = .empty
  · exact .inl ⟨h1, by simp [eqFlag, h1]⟩
  by_cases h2 : s.reg r2 = .empty
  · exact .inr (.inl ⟨h1, h2, by simp [eqFlag, h1, h2]⟩)
  by_cases hk : (s.reg r1).tag.kind = (s.reg r2).tag.kind
  · exact .inr (.inr (.inr ⟨h1, h2, hk, by simp [eqFlag, h1, h2, hk]⟩))
  · exact .inr (.inr (.inl ⟨h1, h2, hk, by simp [eqFlag, h1, h2, hk]⟩))

/-! ## Miller steps -/

/-- A line with its addition answers the product, the sum and the line. -/
theorem lineAndAdd_some {f l f' : Fp12} {a b a' : G2} {p : G1} (h : lineAndAdd f a b p = some (f', a', l)) :
    line a b p = some l ∧ f' = f.mul l ∧ a' = g2Add a b := by
  unfold lineAndAdd at h
  split at h
  · next l' hl =>
    simp only [Option.some.injEq, Prod.mk.injEq] at h
    obtain ⟨rfl, rfl, rfl⟩ := h
    exact ⟨hl, rfl, rfl⟩
  · cases h

/-- The states a completed Miller step leads through, what it leaves alone, and how ML_I counts
(48_pairing.md R434). -/
theorem millerStep_ok {u v : Miller} (h : millerStep u = .ok v) :
    v.q = u.q ∧ v.p = u.p ∧
    ((u.st = .loop ∧ u.i ≠ 0 ∧ v.st = .loop ∧ v.i = u.i - 1) ∨ (u.st = .loop ∧ u.i = 0 ∧ v.st = .frob1 ∧ v.i = u.i) ∨
      (u.st = .frob1 ∧ v.st = .frob2 ∧ v.i = u.i) ∨ (u.st = .frob2 ∧ v.st = .done ∧ v.i = u.i)) := by
  unfold millerStep at h
  split at h
  · cases h
  · cases h
  · next hst =>
    split at h
    · next w hw =>
      cases h
      unfold stepLoop at hw
      split at hw
      · cases hw
      · split at hw
        · next hi =>
          simp only [Option.some.injEq] at hw
          subst hw
          exact ⟨rfl, rfl, .inr (.inl ⟨hst, hi, rfl, rfl⟩)⟩
        · next hi =>
          simp only [Option.some.injEq] at hw
          subst hw
          exact ⟨rfl, rfl, .inl ⟨hst, hi, hst, rfl⟩⟩
    · cases h
  · next hst =>
    split at h
    · next w hw =>
      cases h
      unfold stepFrob1 at hw
      split at hw
      · cases hw
      · simp only [Option.some.injEq] at hw
        subst hw
        exact ⟨rfl, rfl, .inr (.inr (.inl ⟨hst, rfl, rfl⟩))⟩
    · cases h
  · next hst =>
    split at h
    · next w hw =>
      cases h
      unfold stepFrob2 at hw
      split at hw
      · cases hw
      · simp only [Option.some.injEq] at hw
        subst hw
        exact ⟨rfl, rfl, .inr (.inr (.inr ⟨hst, rfl, rfl⟩))⟩
    · cases h

/-- The exception of a Miller step that does not complete (48_pairing.md R424, R428). -/
theorem millerStep_error {u : Miller} {e : Exc} (h : millerStep u = .error e) :
    ((u.st = .idle ∨ u.st = .done) ∧ e = .mlState u.st) ∨
    ((u.st = .loop ∨ u.st = .frob1 ∨ u.st = .frob2) ∧ e = .mlDegenerate u.st) := by
  unfold millerStep at h
  split at h
  · next hst => cases h; exact .inl ⟨.inl hst, by rw [hst]⟩
  · next hst => cases h; exact .inl ⟨.inr hst, by rw [hst]⟩
  all_goals
    next hst =>
      split at h
      · cases h
      · cases h
        exact .inr ⟨by simp [hst], by rw [hst]⟩

/-! ## The host -/

/-- A served or refused host read changes at most `rdata` and HOSTERR (60_exceptions.md R500, R502). -/
theorem hostRead_eq (off : BitVec 15) (s : State) :
    hostRead off s = if s.run = .busy ∧ (mmioOf off).guarded = true then { s with rdata := 0, hostErr := true }
      else { s with rdata := mmioRead s (mmioOf off) } := rfl

/-- A refused host write sets HOSTERR; a served one has its offset's effect. -/
theorem hostWrite_eq (off : BitVec 15) (v : Word) (s : State) :
    hostWrite off v s = if s.run = .busy ∧ (mmioOf off).guarded = true then { s with hostErr := true }
      else mmioWrite v s (mmioOf off) := rfl

/-- No host write reaches the registers, FLAG or the Miller unit but a soft reset (60_exceptions.md R499, R500). -/
theorem mmioWrite_engine (v : Word) (s : State) (m : Mmio) (h : ¬ (m = .ctrl ∧ v.getLsbD 1 = true)) :
    (mmioWrite v s m).regs = s.regs ∧ (mmioWrite v s m).flag = s.flag ∧ (mmioWrite v s m).ml = s.ml := by
  cases m <;> try exact ⟨rfl, rfl, rfl⟩
  have hv : v.getLsbD 1 = false := by simpa using h
  simp only [mmioWrite, writeCtrl, hv, Bool.false_eq_true, if_false, startEngine]
  split
  · split <;> exact ⟨rfl, rfl, rfl⟩
  · exact ⟨rfl, rfl, rfl⟩

end Sys2Proof.Machine
end

