-- ==== Sys2Proof/Machine/Launch.lean ====
section
/-! DEFINITION. How a host launches a program: the clean entry of 70_reset_and_hazards.md R542, a model's launch
premise. -/

namespace Sys2Proof.Machine

/-- Host writes, each a byte offset in the MMIO window and a word, in the order the host issues them. -/
abbrev HostWrites := List (BitVec 15 × Word)

/-- The state after host writes with no engine step between them (60_exceptions.md R501). -/
def hostWrites (ws : HostWrites) (s : State) : State := ws.foldl (fun s w => hostWrite w.1 w.2 s) s

/-- The host writes that put the words `prog` at IMEM[base..] (60_exceptions.md R500). -/
def programWrites : Nat → List Word → HostWrites
  | _, [] => []
  | base, w :: ws => (BitVec.ofNat 15 (0x1000 + 4 * base), w) :: programWrites (base + 1) ws

/-- The eight host writes that make `Word(g) = v`, the most significant word at the lowest offset (20_memory.md R83). -/
def granuleWrites (g : Imm9) (v : BitVec 256) : HostWrites :=
  (List.range 8).map fun j =>
    (BitVec.ofNat 15 (0x4000 + 32 * g.toNat + 4 * j), BitVec.ofNat 32 (v.toNat / 2 ^ (32 * (7 - j))))

/-- The host's writes of a clean entry, in the order of R542: CTRL with SRESET; the program and the input granules;
PC; CTRL with START, whose bit 2 leaves IRQ_EN 0. Log entry 20. -/
def launchWrites (prog : List Word) (base : Nat) (inputs : List (Imm9 × BitVec 256)) : HostWrites :=
  [(0x004, 2)] ++ programWrites base prog ++ inputs.flatMap (fun p => granuleWrites p.1 p.2) ++
    [(0x018, BitVec.ofNat 32 base), (0x004, 1)]

/-- The state immediately after the writes of R542 from `s`, whatever the CORE was doing. -/
def cleanEntry (prog : List Word) (base : Nat) (inputs : List (Imm9 × BitVec 256)) (s : State) : State :=
  hostWrites (launchWrites prog base inputs) s

/-- CleanEntry(prog, base, inputs) of R542, the launch premise: `t` is the state right after a host launched a program
that fits IMEM, with no granule given twice. What the host does next stays open; a claim about a run the host leaves
alone also says `t.hostQ = []` (log entry 20). -/
def State.CleanEntry (prog : List Word) (base : Nat) (inputs : List (Imm9 × BitVec 256)) (t : State) : Prop :=
  base + prog.length ≤ Config.imemWords ∧ (inputs.map Prod.fst).Nodup ∧ ∃ s, t = cleanEntry prog base inputs s

end Sys2Proof.Machine
end

