-- ==== Sys2Proof/Laws/Launch.lean ====
section
/-! SUPPORT. What a clean entry leaves in every piece of state (70_reset_and_hazards.md R542), and that the host
reaches it by steps of the machine. -/

namespace Sys2Proof.Machine

/-! ## Sequences of host writes -/

@[simp] theorem hostWrites_nil (s : State) : hostWrites [] s = s := rfl

@[simp] theorem hostWrites_cons (w : BitVec 15 × Word) (ws : HostWrites) (s : State) :
    hostWrites (w :: ws) s = hostWrites ws (hostWrite w.1 w.2 s) := rfl

theorem hostWrites_append (ws ws' : HostWrites) (s : State) :
    hostWrites (ws ++ ws') s = hostWrites ws' (hostWrites ws s) := List.foldl_append ..

/-- A host write neither reads nor changes the host's queue. -/
theorem hostWrite_hostQ (off : BitVec 15) (v : Word) (s : State) (q : List HostAct) :
    hostWrite off v { s with hostQ := q } = { hostWrite off v s with hostQ := q } := by
  simp only [hostWrite_eq]
  split
  · rfl
  · cases mmioOf off <;> simp only [mmioWrite]
    · simp only [writeCtrl, startEngine]
      split
      · rfl
      · split
        · split <;> rfl
        · rfl
    · rfl

/-- The machine makes the writes at the head of the host's queue one step each. -/
theorem run_hostWrites (ws : HostWrites) (s : State) (q : List HostAct) :
    Host.Core.run core ws.length { s with hostQ := ws.map (fun w => .write w.1 w.2) ++ q } =
      .next (hostWrites ws { s with hostQ := q }) := by
  induction ws generalizing s with
  | nil => rfl
  | cons w ws ih =>
    have h : core.step { s with hostQ := (w :: ws).map (fun w => .write w.1 w.2) ++ q } =
        .next { hostWrite w.1 w.2 s with hostQ := ws.map (fun w => .write w.1 w.2) ++ q } :=
      congrArg Host.Outcome.next (hostWrite_hostQ w.1 w.2 s _)
    simp only [List.length_cons, Host.Core.run, h, ih, hostWrites_cons, hostWrite_hostQ]

/-! ## The writes of a clean entry -/

theorem mmioOf_imem {k : Nat} (hk : k < 512) : mmioOf (BitVec.ofNat 15 (0x1000 + 4 * k)) = .imem k := by
  have h : (BitVec.ofNat 15 (0x1000 + 4 * k)).toNat = 0x1000 + 4 * k := by
    rw [BitVec.toNat_ofNat]; omega
  have hd : (0x1000 + 4 * k) / 4 = 0x400 + k := by omega
  rw [mmioOf, h, hd]
  have hn : ∀ n < 0x400, 0x400 + k ≠ n := fun n hn => by omega
  rw [if_neg (hn 0 (by decide)), if_neg (hn 1 (by decide)), if_neg (hn 2 (by decide)), if_neg (hn 3 (by decide)),
    if_neg (hn 4 (by decide)), if_neg (hn 5 (by decide)), if_neg (hn 6 (by decide)), if_neg (hn 7 (by decide)),
    if_pos ⟨Nat.le_add_right .., by omega⟩, Nat.add_sub_cancel_left]

theorem mmioOf_dmem {k : Nat} (hk : k < 4096) : mmioOf (BitVec.ofNat 15 (0x4000 + 4 * k)) = .dmem k := by
  have h : (BitVec.ofNat 15 (0x4000 + 4 * k)).toNat = 0x4000 + 4 * k := by
    rw [BitVec.toNat_ofNat]; omega
  have hd : (0x4000 + 4 * k) / 4 = 0x1000 + k := by omega
  rw [mmioOf, h, hd]
  have hn : ∀ n < 0x400, 0x1000 + k ≠ n := fun n hn => by omega
  rw [if_neg (hn 0 (by decide)), if_neg (hn 1 (by decide)), if_neg (hn 2 (by decide)), if_neg (hn 3 (by decide)),
    if_neg (hn 4 (by decide)), if_neg (hn 5 (by decide)), if_neg (hn 6 (by decide)), if_neg (hn 7 (by decide)),
    if_neg (fun h => by omega), if_pos (Nat.le_add_right ..), Nat.add_sub_cancel_left]

/-- While the engine is not BUSY no host write is refused (60_exceptions.md R502). -/
theorem hostWrite_served {off : BitVec 15} {v : Word} {s : State} {m : Mmio} (hm : mmioOf off = m)
    (hs : s.run ≠ .busy) : hostWrite off v s = mmioWrite v s m := by
  simp [hostWrite_eq, hs, hm]

theorem hostWrites_program (prog : List Word) (base : Nat) (s : State) (hs : s.run ≠ .busy)
    (hb : base + prog.length ≤ 512) :
    hostWrites (programWrites base prog) s = { s with imem := Memory.setMany s.imem base prog } := by
  induction prog generalizing base s with
  | nil => rfl
  | cons w ws ih =>
    simp only [List.length_cons] at hb
    rw [programWrites, hostWrites_cons, hostWrite_served (mmioOf_imem (by omega)) hs, mmioWrite]
    exact ih (base + 1) { s with imem := Memory.set s.imem base w } hs (by omega)

theorem Memory.setMany_append {α : Type} (vs ws : List α) (m : Memory α) (a : Nat) :
    Memory.setMany m a (vs ++ ws) = Memory.setMany (Memory.setMany m a vs) (a + vs.length) ws := by
  induction vs generalizing m a with
  | nil => rfl
  | cons v vs ih =>
    simp only [List.cons_append, Memory.setMany, ih, List.length_cons]
    congr 1
    omega

/-- The four bytes of the host word that starts `n` bytes above a value's end are bytes of that value. -/
theorem beBytes_hostWord (v n : Nat) :
    beBytes 4 (BitVec.ofNat 32 (v / 256 ^ n)).toNat =
      [BitVec.ofNat 8 (v / 256 ^ (n + 3)), BitVec.ofNat 8 (v / 256 ^ (n + 2)), BitVec.ofNat 8 (v / 256 ^ (n + 1)),
        BitVec.ofNat 8 (v / 256 ^ n)] := by
  have h : ∀ k, v / 256 ^ (n + k) = v / 256 ^ n / 256 ^ k := fun k => by rw [pow_add, Nat.div_div_eq_div_mul]
  simp only [beBytes, h, BitVec.toNat_ofNat]
  congr 1
  · apply BitVec.eq_of_toNat_eq; simp only [BitVec.toNat_ofNat]; omega
  congr 1
  · apply BitVec.eq_of_toNat_eq; simp only [BitVec.toNat_ofNat]; omega
  congr 1
  · apply BitVec.eq_of_toNat_eq; simp only [BitVec.toNat_ofNat]; omega
  congr 1
  apply BitVec.eq_of_toNat_eq; simp only [BitVec.toNat_ofNat]; omega

/-- A granule's 32 bytes are the bytes of its eight host words (20_memory.md R83). -/
theorem beBytes_granule (v : Nat) :
    beBytes 32 v = (List.range 8).flatMap fun j => beBytes 4 (BitVec.ofNat 32 (v / 2 ^ (32 * (7 - j)))).toNat := by
  have h : ∀ j, 2 ^ (32 * (7 - j)) = 256 ^ (4 * (7 - j)) := fun j => by
    rw [show (256 : Nat) = 2 ^ 8 from rfl, ← pow_mul]; congr 1; omega
  simp only [h, beBytes_hostWord]
  rfl

/-- Writing the `k` host words from word `w` on is writing their bytes. -/
theorem hostWrites_dmem (vs : List Word) (w : Nat) (s : State) (hs : s.run ≠ .busy) (hw : w + vs.length ≤ 4096) :
    hostWrites (vs.zipIdx.map fun p => (BitVec.ofNat 15 (0x4000 + 4 * (w + p.2)), p.1)) s =
      { s with dmem := Memory.setMany s.dmem (4 * w) (vs.flatMap fun v => beBytes 4 v.toNat) } := by
  induction vs generalizing w s with
  | nil => rfl
  | cons v vs ih =>
    simp only [List.length_cons] at hw
    have hz : ((v :: vs).zipIdx.map fun p => (BitVec.ofNat 15 (0x4000 + 4 * (w + p.2)), p.1)) =
        (BitVec.ofNat 15 (0x4000 + 4 * w), v) ::
          vs.zipIdx.map fun p => (BitVec.ofNat 15 (0x4000 + 4 * (w + 1 + p.2)), p.1) := by
      rw [List.zipIdx_cons', List.map_cons, List.map_map]
      congr 1
      apply List.map_congr_left
      intro p _
      simp only [Function.comp, Prod.map]
      rw [show w + (p.2 + 1) = w + 1 + p.2 by omega]
      rfl
    rw [hz, hostWrites_cons, hostWrite_served (mmioOf_dmem (by omega)) hs, mmioWrite]
    refine (ih (w + 1) { s with dmem := setDmemHostWord s.dmem w v } hs (by omega)).trans ?_
    simp only [setDmemHostWord, List.flatMap_cons, Memory.setMany_append, length_beBytes]
    rw [show 4 * (w + 1) = 4 * w + 4 by omega]

/-- The eight writes of a granule are `SetWord`. -/
theorem hostWrites_granule (g : Imm9) (v : BitVec 256) (s : State) (hs : s.run ≠ .busy) :
    hostWrites (granuleWrites g v) s = s.setDmem (setWord s.dmem g.toNat v.toNat) := by
  have hg := g.isLt
  have h := hostWrites_dmem ((List.range 8).map fun j => BitVec.ofNat 32 (v.toNat / 2 ^ (32 * (7 - j))))
    (8 * g.toNat) s hs (by simp; omega)
  have hw : (((List.range 8).map fun j => BitVec.ofNat 32 (v.toNat / 2 ^ (32 * (7 - j)))).zipIdx.map
      fun p => (BitVec.ofNat 15 (0x4000 + 4 * (8 * g.toNat + p.2)), p.1)) = granuleWrites g v := by
    simp only [granuleWrites, show List.range 8 = [0, 1, 2, 3, 4, 5, 6, 7] from rfl, List.map, List.zipIdx]
    simp only [Nat.mul_add, Nat.add_assoc, ← Nat.mul_assoc]
  rw [hw] at h
  rw [h, State.setDmem, setWord, beBytes_granule, List.flatMap_map, show 4 * (8 * g.toNat) = 32 * g.toNat by omega]

/-- The memory with the input granules written. -/
theorem hostWrites_inputs (inputs : List (Imm9 × BitVec 256)) (s : State) (hs : s.run ≠ .busy) :
    hostWrites (inputs.flatMap fun p => granuleWrites p.1 p.2) s =
      s.setDmem (inputs.foldl (fun m p => setWord m p.1.toNat p.2.toNat) s.dmem) := by
  induction inputs generalizing s with
  | nil => rfl
  | cons p ps ih =>
    rw [List.flatMap_cons, hostWrites_append, hostWrites_granule _ _ _ hs]
    refine (ih (s.setDmem (setWord s.dmem p.1.toNat p.2.toNat)) (by rwa [setDmem_run])).trans ?_
    rw [List.foldl_cons, setDmem_setDmem, setDmem_dmem]

/-! ## The state of a clean entry -/

/-- A clean entry in closed form. -/
theorem cleanEntry_eq (prog : List Word) (base : Nat) (inputs : List (Imm9 × BitVec 256)) (s : State)
    (hb : base + prog.length ≤ Config.imemWords) :
    cleanEntry prog base inputs s =
      { softReset s with
        imem := Memory.setMany s.imem base prog
        dmem := inputs.foldl (fun m p => setWord m p.1.toNat p.2.toNat) s.dmem
        pc := BitVec.ofNat 10 base
        run := .busy } := by
  have hc : mmioOf 0x004 = .ctrl := by decide
  have hpc : mmioOf 0x018 = .pc := by decide
  have hr : hostWrite 0x004 2 s = softReset s := by
    rw [hostWrite_eq, hc, if_neg (fun h => Bool.false_ne_true h.2)]
    rfl
  have hp : (BitVec.ofNat 32 base).setWidth 10 = BitVec.ofNat 10 base := by
    apply BitVec.eq_of_toNat_eq
    simp only [BitVec.toNat_setWidth, BitVec.toNat_ofNat]
    omega
  have hi : RunState.idle ≠ .busy := by decide
  simp only [cleanEntry, launchWrites, hostWrites_append, hostWrites_cons, hostWrites_nil, hr]
  rw [hostWrites_program prog base (softReset s) hi hb, hostWrites_inputs inputs _ (by exact hi),
    hostWrite_served hpc (by exact hi), hostWrite_served hc (by exact hi)]
  simp only [mmioWrite, hp]
  rfl

/-- The granules of a memory with the input granules written, none of them twice. -/
theorem word_inputs (inputs : List (Imm9 × BitVec 256)) (s : State) (hn : (inputs.map Prod.fst).Nodup) :
    (∀ p ∈ inputs, word (s.setDmem (inputs.foldl (fun m p => setWord m p.1.toNat p.2.toNat) s.dmem)) p.1.toNat =
      p.2.toNat) ∧
    ∀ h, (∀ p ∈ inputs, p.1.toNat ≠ h) →
      word (s.setDmem (inputs.foldl (fun m p => setWord m p.1.toNat p.2.toNat) s.dmem)) h = word s h := by
  induction inputs generalizing s with
  | nil => exact ⟨fun _ h => absurd h List.not_mem_nil, fun _ _ => rfl⟩
  | cons p ps ih =>
    rw [List.map_cons, List.nodup_cons] at hn
    obtain ⟨hi, ho⟩ := ih (s.setDmem (setWord s.dmem p.1.toNat p.2.toNat)) hn.2
    simp only [setDmem_setDmem, setDmem_dmem] at hi ho
    simp only [List.foldl_cons]
    have hw := fun h => word_setWord s p.1.toNat p.2.toNat h p.2.isLt
    refine ⟨fun x hx => ?_, fun h hh => ?_⟩
    · rcases List.mem_cons.mp hx with rfl | hx
      · refine (ho _ fun y hy he => hn.1 ?_).trans ((hw _).trans (if_pos rfl))
        exact BitVec.eq_of_toNat_eq he ▸ List.mem_map_of_mem hy
      · exact hi x hx
    · refine (ho h fun y hy => hh y (List.mem_cons_of_mem _ hy)).trans ((hw h).trans (if_neg ?_))
      exact fun he => hh p List.mem_cons_self he.symm

/-- Every line of R542's list, for the state after a launch from any state `s`. -/
theorem cleanEntry_state (prog : List Word) (base : Nat) (inputs : List (Imm9 × BitVec 256)) (s : State)
    (hb : base + prog.length ≤ Config.imemWords) (hn : (inputs.map Prod.fst).Nodup) :
    let t := cleanEntry prog base inputs s
    t.run = .busy ∧ t.pc = BitVec.ofNat 10 base ∧ (∀ r, t.reg r = .empty) ∧ t.flag = false ∧ t.ml.st = .idle ∧
    t.cause = 0 ∧ t.fpc = 0 ∧ t.finsn = 0 ∧ t.finfo = 0 ∧ t.irqPend = false ∧ t.hostErr = false ∧ t.irqEn = false ∧
    (∀ k (hk : k < prog.length), imemWord t (base + k) = prog[k]) ∧
    (∀ k, ¬ (base ≤ k ∧ k < base + prog.length) → imemWord t k = imemWord s k) ∧
    (∀ p ∈ inputs, word t p.1.toNat = p.2.toNat) ∧
    (∀ g, (∀ p ∈ inputs, p.1.toNat ≠ g) → word t g = word s g) ∧
    t.hostQ = s.hostQ := by
  have hw := word_inputs inputs s hn
  rw [cleanEntry_eq prog base inputs s hb]
  refine ⟨rfl, rfl, ?_, rfl, rfl, rfl, rfl, rfl, rfl, rfl, rfl, rfl, fun k hk => ?_, fun k hk => ?_, hw.1, hw.2, rfl⟩
  · intro r
    simp [State.reg, softReset, State.reset]
  · simp only [imemWord, Memory.get?_setMany]
    rw [if_pos (by omega), Nat.add_sub_cancel_left, List.getElem?_eq_getElem hk]
  · simp only [imemWord, Memory.get?_setMany]
    rw [if_neg hk]
    rfl

/-- From any state whose queue begins with the launch's writes, the machine is in the clean entry after one step for
each of them, with the rest of the queue to come. -/
theorem run_launch (prog : List Word) (base : Nat) (inputs : List (Imm9 × BitVec 256)) (s : State) (q : List HostAct) :
    Host.Core.run core (launchWrites prog base inputs).length
        { s with hostQ := (launchWrites prog base inputs).map (fun w => .write w.1 w.2) ++ q } =
      .next (cleanEntry prog base inputs { s with hostQ := q }) :=
  run_hostWrites _ s q

end Sys2Proof.Machine
end

