-- ==== Sys2Proof/Laws/Operands.lean ====
section
/-! SUPPORT. What the reading of operands can answer (40_control.md R158, 20_memory.md R81, 41_load_store.md R180). -/

namespace Sys2Proof.Machine

variable {α β : Type} {s : State}

/-- A source with an accepted tag is read. -/
theorem src_ok {r : RegIdx} {want : RegVal → Option α} {a : α} (he : s.reg r ≠ .empty)
    (hw : want (s.reg r) = some a) : src s r want = .ok a := by simp [src, he, hw]

/-- Everything `src` can answer. -/
theorem src_cases (s : State) (r : RegIdx) (want : RegVal → Option α) :
    (s.reg r = .empty ∧ src s r want = .error (.emptyRead r)) ∨
    (s.reg r ≠ .empty ∧ want (s.reg r) = none ∧ src s r want = .error (.typeMismatch r)) ∨
    ∃ a, s.reg r ≠ .empty ∧ want (s.reg r) = some a ∧ src s r want = .ok a := by
  by_cases he : s.reg r = .empty
  · exact .inl ⟨he, by simp [src, he]⟩
  · cases hw : want (s.reg r) with
    | none => exact .inr (.inl ⟨he, rfl, by simp [src, he, hw]⟩)
    | some a => exact .inr (.inr ⟨a, he, rfl, src_ok he hw⟩)

/-- Two sources with accepted tags are read. -/
theorem srcs_ok {r1 r2 : RegIdx} {want1 : RegVal → Option α} {want2 : RegVal → Option β} {a : α} {b : β}
    (he1 : s.reg r1 ≠ .empty) (he2 : s.reg r2 ≠ .empty) (hw1 : want1 (s.reg r1) = some a)
    (hw2 : want2 (s.reg r2) = some b) : srcs s r1 want1 r2 want2 = .ok (a, b) := by
  simp [srcs, he1, he2, hw1, hw2]

/-- Everything `srcs` can answer, in the order of its checks. -/
theorem srcs_cases (s : State) (r1 : RegIdx) (want1 : RegVal → Option α) (r2 : RegIdx)
    (want2 : RegVal → Option β) :
    (s.reg r1 = .empty ∧ srcs s r1 want1 r2 want2 = .error (.emptyRead r1)) ∨
    (s.reg r1 ≠ .empty ∧ s.reg r2 = .empty ∧ srcs s r1 want1 r2 want2 = .error (.emptyRead r2)) ∨
    (s.reg r1 ≠ .empty ∧ s.reg r2 ≠ .empty ∧ want1 (s.reg r1) = none ∧
      srcs s r1 want1 r2 want2 = .error (.typeMismatch r1)) ∨
    (s.reg r1 ≠ .empty ∧ s.reg r2 ≠ .empty ∧ (∃ a, want1 (s.reg r1) = some a) ∧ want2 (s.reg r2) = none ∧
      srcs s r1 want1 r2 want2 = .error (.typeMismatch r2)) ∨
    ∃ a b, s.reg r1 ≠ .empty ∧ s.reg r2 ≠ .empty ∧ want1 (s.reg r1) = some a ∧ want2 (s.reg r2) = some b ∧
      srcs s r1 want1 r2 want2 = .ok (a, b) := by
  by_cases he1 : s.reg r1 = .empty
  · exact .inl ⟨he1, by simp [srcs, he1]⟩
  by_cases he2 : s.reg r2 = .empty
  · exact .inr (.inl ⟨he1, he2, by simp [srcs, he1, he2]⟩)
  cases hw1 : want1 (s.reg r1) with
  | none => exact .inr (.inr (.inl ⟨he1, he2, rfl, by simp [srcs, he1, he2, hw1]⟩))
  | some a =>
    cases hw2 : want2 (s.reg r2) with
    | none => exact .inr (.inr (.inr (.inl ⟨he1, he2, ⟨a, rfl⟩, rfl, by simp [srcs, he1, he2, hw1, hw2]⟩)))
    | some b => exact .inr (.inr (.inr (.inr ⟨a, b, he1, he2, rfl, rfl, srcs_ok he1 he2 hw1 hw2⟩)))

theorem checkBounds_ok {g n : Nat} (h : g + n ≤ Config.granules) : checkBounds g n = .ok () := by
  simp [checkBounds, h]

theorem checkBounds_error {g n : Nat} (h : ¬ g + n ≤ Config.granules) :
    checkBounds g n = .error (.memBounds g) := by simp [checkBounds, h]

theorem fpWord_ok {h : Nat} (hlt : word s h < P) : fpWord s h = .ok ⟨word s h, hlt⟩ := by simp [fpWord, hlt]

theorem fpWord_error {h : Nat} (hge : ¬ word s h < P) : fpWord s h = .error (.decodeError h) := by
  simp [fpWord, hge]

/-- A granule holding a reduced value is read as that value. -/
theorem fpWord_of {g : Nat} {a : Fp} (h : word s g = a.val) : fpWord s g = .ok a := by
  obtain ⟨v, hv⟩ := a
  subst h
  exact fpWord_ok hv

/-- Two granules holding the coefficients of a value are read as that value; likewise six and twelve. -/
theorem fp2Word_of {g : Nat} {a : Fp2} (h : ∀ k < 2, word s (g + k) = (coeffAt a.coeffs k).val) :
    fp2Word s g = .ok a := by
  have h0 : fpWord s g = .ok a.c0 := fpWord_of (h 0 (by decide))
  have h1 : fpWord s (g + 1) = .ok a.c1 := fpWord_of (h 1 (by decide))
  simp only [fp2Word, h0, h1, bind, Except.bind, pure, Except.pure]

theorem fp6Word_of {g : Nat} {a : Fp6} (h : ∀ k < 6, word s (g + k) = (coeffAt a.coeffs k).val) :
    fp6Word s g = .ok a := by
  have h0 : fp2Word s g = .ok a.c0 := fp2Word_of fun k hk => by
    have := h k (by omega); interval_cases k <;> exact this
  have h1 : fp2Word s (g + 2) = .ok a.c1 := fp2Word_of fun k hk => by
    have := h (2 + k) (by omega); rw [← Nat.add_assoc] at this; interval_cases k <;> exact this
  have h2 : fp2Word s (g + 4) = .ok a.c2 := fp2Word_of fun k hk => by
    have := h (4 + k) (by omega); rw [← Nat.add_assoc] at this; interval_cases k <;> exact this
  simp only [fp6Word, h0, h1, h2, bind, Except.bind, pure, Except.pure]

theorem fp12Word_of {g : Nat} {a : Fp12} (h : ∀ k < 12, word s (g + k) = (coeffAt a.coeffs k).val) :
    fp12Word s g = .ok a := by
  have h0 : fp6Word s g = .ok a.c0 := fp6Word_of fun k hk => by
    have := h k (by omega); interval_cases k <;> exact this
  have h1 : fp6Word s (g + 6) = .ok a.c1 := fp6Word_of fun k hk => by
    have := h (6 + k) (by omega); rw [← Nat.add_assoc] at this; interval_cases k <;> exact this
  simp only [fp12Word, h0, h1, bind, Except.bind, pure, Except.pure]

/-- A load inside DMEM is its layout's read; outside it raises MEM_BOUNDS. -/
theorem loadFrom_eq (g n : Nat) (read : Nat → Except Exc α) :
    loadFrom g n read = if g + n ≤ Config.granules then read g else .error (.memBounds g) := by
  by_cases h : g + n ≤ Config.granules
  · simp [loadFrom, checkBounds, h, bind, Except.bind]
  · simp [loadFrom, checkBounds, h, bind, Except.bind]

/-- A store's answer: the operand's error, MEM_BOUNDS, or the memory with the words written. -/
theorem storeTo_eq (s : State) (g : Nat) (rs1 : RegIdx) (want : RegVal → Option α) (n : Nat) (words : α → List Nat) :
    storeTo s g rs1 want n words = match src s rs1 want with
      | .error e => .error e
      | .ok a => if g + n ≤ Config.granules then .ok (setWords s.dmem g (words a)) else .error (.memBounds g) := by
  cases hs : src s rs1 want with
  | error e => simp [storeTo, hs, bind, Except.bind]
  | ok a =>
    by_cases h : g + n ≤ Config.granules
    · simp [storeTo, hs, checkBounds, h, bind, Except.bind, pure, Except.pure]
    · simp [storeTo, hs, checkBounds, h, bind, Except.bind]

end Sys2Proof.Machine
end

