-- ==== Sys2Proof/Laws/PerInstr.lean ====
section
/-! SUPPORT. For every instruction: its word has the fixed bits of its row of spec/opcode_table.json. The masks and
match words below are the table's own; the encoder (Decode.lean) was written from the fields of 30_encoding.md. -/

namespace Sys2Proof.Laws.EncodeMatchesTable

/-- The mask and match columns of the opcode table. -/
def row : Instr → Word × Word
  | .halt => (0xFFFFFFFF#32, 0x04000000#32)
  | .nop => (0xFFFFFFFF#32, 0x08000000#32)
  | .jmp _ => (0xFFFFFE00#32, 0x0C000000#32)
  | .bt _ => (0xFFFFFE00#32, 0x10000000#32)
  | .bf _ => (0xFFFFFE00#32, 0x14000000#32)
  | .mov _ _ => (0xFF003FFF#32, 0x18000000#32)
  | .clr _ => (0xFF07FFFF#32, 0x1C000000#32)
  | .eq _ _ => (0xFFF801FF#32, 0x20000000#32)
  | .zeroFp _ => (0xFF07FFFF#32, 0x24000000#32)
  | .zeroFp2 _ => (0xFF07FFFF#32, 0x25000000#32)
  | .zeroFp6 _ => (0xFF07FFFF#32, 0x26000000#32)
  | .zeroFp12 _ => (0xFF07FFFF#32, 0x27000000#32)
  | .oneFp _ => (0xFF07FFFF#32, 0x28000000#32)
  | .oneFp2 _ => (0xFF07FFFF#32, 0x29000000#32)
  | .oneFp6 _ => (0xFF07FFFF#32, 0x2A000000#32)
  | .oneFp12 _ => (0xFF07FFFF#32, 0x2B000000#32)
  | .ldFp _ _ => (0xFF07FE00#32, 0x40000000#32)
  | .ldFp2 _ _ => (0xFF07FE00#32, 0x41000000#32)
  | .ldFp6 _ _ => (0xFF07FE00#32, 0x42000000#32)
  | .ldFp12 _ _ => (0xFF07FE00#32, 0x43000000#32)
  | .stFp _ _ => (0xFFF83E00#32, 0x44000000#32)
  | .stFp2 _ _ => (0xFFF83E00#32, 0x45000000#32)
  | .stFp6 _ _ => (0xFFF83E00#32, 0x46000000#32)
  | .stFp12 _ _ => (0xFFF83E00#32, 0x47000000#32)
  | .ldg1 _ _ => (0xFF07FE00#32, 0x48000000#32)
  | .ldg2 _ _ => (0xFF07FE00#32, 0x4C000000#32)
  | .stg1 _ _ => (0xFFF83E00#32, 0x50000000#32)
  | .stg2 _ _ => (0xFFF83E00#32, 0x54000000#32)
  | .ldsc _ _ => (0xFF07FE00#32, 0x58000000#32)
  | .stsc _ _ => (0xFFF83E00#32, 0x5C000000#32)
  | .mlinit _ _ => (0xFFF801FF#32, 0x60000000#32)
  | .mlstep => (0xFFFFFFFF#32, 0x64000000#32)
  | .miller _ _ _ => (0xFF0001FF#32, 0x68000000#32)
  | .mlrdf _ => (0xFF07FFFF#32, 0x6C000000#32)
  | .mlrdt _ => (0xFF07FFFF#32, 0x70000000#32)
  | .mlrdl _ => (0xFF07FFFF#32, 0x74000000#32)
  | .mldone => (0xFFFFFFFF#32, 0x78000000#32)
  | .fexp _ _ => (0xFF003FFF#32, 0x7C000000#32)
  | .addFp _ _ _ => (0xFF0001FF#32, 0x80000000#32)
  | .addFp2 _ _ _ => (0xFF0001FF#32, 0x81000000#32)
  | .addFp6 _ _ _ => (0xFF0001FF#32, 0x82000000#32)
  | .addFp12 _ _ _ => (0xFF0001FF#32, 0x83000000#32)
  | .subFp _ _ _ => (0xFF0001FF#32, 0x84000000#32)
  | .subFp2 _ _ _ => (0xFF0001FF#32, 0x85000000#32)
  | .subFp6 _ _ _ => (0xFF0001FF#32, 0x86000000#32)
  | .subFp12 _ _ _ => (0xFF0001FF#32, 0x87000000#32)
  | .negFp _ _ => (0xFF003FFF#32, 0x88000000#32)
  | .negFp2 _ _ => (0xFF003FFF#32, 0x89000000#32)
  | .negFp6 _ _ => (0xFF003FFF#32, 0x8A000000#32)
  | .negFp12 _ _ => (0xFF003FFF#32, 0x8B000000#32)
  | .mulFp _ _ _ => (0xFF0001FF#32, 0x8C000000#32)
  | .mulFp2 _ _ _ => (0xFF0001FF#32, 0x8D000000#32)
  | .mulFp6 _ _ _ => (0xFF0001FF#32, 0x8E000000#32)
  | .mulFp12 _ _ _ => (0xFF0001FF#32, 0x8F000000#32)
  | .sqrFp _ _ => (0xFF003FFF#32, 0x90000000#32)
  | .sqrFp2 _ _ => (0xFF003FFF#32, 0x91000000#32)
  | .sqrFp6 _ _ => (0xFF003FFF#32, 0x92000000#32)
  | .sqrFp12 _ _ => (0xFF003FFF#32, 0x93000000#32)
  | .invFp _ _ => (0xFF003FFF#32, 0x94000000#32)
  | .invFp2 _ _ => (0xFF003FFF#32, 0x95000000#32)
  | .invFp6 _ _ => (0xFF003FFF#32, 0x96000000#32)
  | .invFp12 _ _ => (0xFF003FFF#32, 0x97000000#32)
  | .powFp _ _ _ => (0xFF0001FF#32, 0x98000000#32)
  | .powFp2 _ _ _ => (0xFF0001FF#32, 0x99000000#32)
  | .powFp6 _ _ _ => (0xFF0001FF#32, 0x9A000000#32)
  | .powFp12 _ _ _ => (0xFF0001FF#32, 0x9B000000#32)
  | .conjFp2 _ _ => (0xFF003FFF#32, 0x9D000000#32)
  | .conjFp12 _ _ => (0xFF003FFF#32, 0x9F000000#32)
  | .frobFp _ _ _ => (0xFF003E00#32, 0xA0000000#32)
  | .frobFp2 _ _ _ => (0xFF003E00#32, 0xA1000000#32)
  | .frobFp6 _ _ _ => (0xFF003E00#32, 0xA2000000#32)
  | .frobFp12 _ _ _ => (0xFF003E00#32, 0xA3000000#32)
  | .mulxi _ _ => (0xFF003FFF#32, 0xA4000000#32)
  | .iszeroFp _ => (0xFFF83FFF#32, 0xA8000000#32)
  | .iszeroFp2 _ => (0xFFF83FFF#32, 0xA9000000#32)
  | .iszeroFp6 _ => (0xFFF83FFF#32, 0xAA000000#32)
  | .iszeroFp12 _ => (0xFFF83FFF#32, 0xAB000000#32)
  | .isoneFp _ => (0xFFF83FFF#32, 0xAC000000#32)
  | .isoneFp2 _ => (0xFFF83FFF#32, 0xAD000000#32)
  | .isoneFp6 _ => (0xFFF83FFF#32, 0xAE000000#32)
  | .isoneFp12 _ => (0xFFF83FFF#32, 0xAF000000#32)
  | .embFp2 _ _ => (0xFF003FFF#32, 0xB1000000#32)
  | .embFp6 _ _ => (0xFF003FFF#32, 0xB2000000#32)
  | .embFp12 _ _ => (0xFF003FFF#32, 0xB3000000#32)
  | .mkfp2 _ _ _ => (0xFF0001FF#32, 0xB4000000#32)
  | .coefFp _ _ _ => (0xFF003FFF#32, 0xB8000000#32)
  | .coefFp2 _ _ _ => (0xFF003FFE#32, 0xB9000000#32)
  | .coefFp6 _ _ _ => (0xFF003FF8#32, 0xBA000000#32)
  | .coefFp12 _ _ _ => (0xFF003FF0#32, 0xBB000000#32)
  | .paddG1 _ _ _ => (0xFF0001FF#32, 0xC0000000#32)
  | .paddG2 _ _ _ => (0xFF0001FF#32, 0xC1000000#32)
  | .pdblG1 _ _ => (0xFF003FFF#32, 0xC4000000#32)
  | .pdblG2 _ _ => (0xFF003FFF#32, 0xC5000000#32)
  | .pnegG1 _ _ => (0xFF003FFF#32, 0xC8000000#32)
  | .pnegG2 _ _ => (0xFF003FFF#32, 0xC9000000#32)
  | .pmulG1 _ _ _ => (0xFF0001FF#32, 0xCC000000#32)
  | .pmulG2 _ _ _ => (0xFF0001FF#32, 0xCD000000#32)
  | .ptojG1 _ _ => (0xFF003FFF#32, 0xD0000000#32)
  | .ptojG2 _ _ => (0xFF003FFF#32, 0xD1000000#32)
  | .ptoaG1 _ _ => (0xFF003FFF#32, 0xD4000000#32)
  | .ptoaG2 _ _ => (0xFF003FFF#32, 0xD5000000#32)
  | .isinfG1 _ => (0xFFF83FFF#32, 0xD8000000#32)
  | .isinfG2 _ => (0xFFF83FFF#32, 0xD9000000#32)
  | .pinfG1 _ => (0xFF07FFFF#32, 0xDC000000#32)
  | .pinfG2 _ => (0xFF07FFFF#32, 0xDD000000#32)

/-- The word of a well-formed instruction has its row's fixed bits. -/
def Statement (i : Instr) : Prop := i.wf = true → encode i &&& (row i).1 = (row i).2

/-! ## One lemma a format: what the mask leaves of the word -/

theorem mask_n (op : BitVec 6) (ft : BitVec 2) :
    wordOf ⟨op, ft, 0#5, 0#5, 0#5, 0#9⟩ &&& 0xFFFFFFFF#32 = wordOf ⟨op, ft, 0, 0, 0, 0⟩ := by
  apply BitVec.eq_of_getLsbD_eq
  intro i hi
  simp only [wordOf, BitVec.getLsbD_and, BitVec.getLsbD_append, BitVec.getLsbD_ofNat]
  interval_cases i <;> simp [Nat.testBit, Nat.shiftRight_eq_div_pow]

theorem mask_j (op : BitVec 6) (ft : BitVec 2) (imm : Imm9) :
    wordOf ⟨op, ft, 0#5, 0#5, 0#5, imm⟩ &&& 0xFFFFFE00#32 = wordOf ⟨op, ft, 0, 0, 0, 0⟩ := by
  apply BitVec.eq_of_getLsbD_eq
  intro i hi
  simp only [wordOf, BitVec.getLsbD_and, BitVec.getLsbD_append, BitVec.getLsbD_ofNat]
  interval_cases i <;> simp [Nat.testBit, Nat.shiftRight_eq_div_pow]

theorem mask_rds (op : BitVec 6) (ft : BitVec 2) (rd rs1 : RegIdx) :
    wordOf ⟨op, ft, rd, rs1, 0#5, 0#9⟩ &&& 0xFF003FFF#32 = wordOf ⟨op, ft, 0, 0, 0, 0⟩ := by
  apply BitVec.eq_of_getLsbD_eq
  intro i hi
  simp only [wordOf, BitVec.getLsbD_and, BitVec.getLsbD_append, BitVec.getLsbD_ofNat]
  interval_cases i <;> simp [Nat.testBit, Nat.shiftRight_eq_div_pow]

theorem mask_rd (op : BitVec 6) (ft : BitVec 2) (rd : RegIdx) :
    wordOf ⟨op, ft, rd, 0#5, 0#5, 0#9⟩ &&& 0xFF07FFFF#32 = wordOf ⟨op, ft, 0, 0, 0, 0⟩ := by
  apply BitVec.eq_of_getLsbD_eq
  intro i hi
  simp only [wordOf, BitVec.getLsbD_and, BitVec.getLsbD_append, BitVec.getLsbD_ofNat]
  interval_cases i <;> simp [Nat.testBit, Nat.shiftRight_eq_div_pow]

theorem mask_ss (op : BitVec 6) (ft : BitVec 2) (rs1 rs2 : RegIdx) :
    wordOf ⟨op, ft, 0#5, rs1, rs2, 0#9⟩ &&& 0xFFF801FF#32 = wordOf ⟨op, ft, 0, 0, 0, 0⟩ := by
  apply BitVec.eq_of_getLsbD_eq
  intro i hi
  simp only [wordOf, BitVec.getLsbD_and, BitVec.getLsbD_append, BitVec.getLsbD_ofNat]
  interval_cases i <;> simp [Nat.testBit, Nat.shiftRight_eq_div_pow]

theorem mask_ld (op : BitVec 6) (ft : BitVec 2) (rd : RegIdx) (imm : Imm9) :
    wordOf ⟨op, ft, rd, 0#5, 0#5, imm⟩ &&& 0xFF07FE00#32 = wordOf ⟨op, ft, 0, 0, 0, 0⟩ := by
  apply BitVec.eq_of_getLsbD_eq
  intro i hi
  simp only [wordOf, BitVec.getLsbD_and, BitVec.getLsbD_append, BitVec.getLsbD_ofNat]
  interval_cases i <;> simp [Nat.testBit, Nat.shiftRight_eq_div_pow]

theorem mask_st (op : BitVec 6) (ft : BitVec 2) (rs1 : RegIdx) (imm : Imm9) :
    wordOf ⟨op, ft, 0#5, rs1, 0#5, imm⟩ &&& 0xFFF83E00#32 = wordOf ⟨op, ft, 0, 0, 0, 0⟩ := by
  apply BitVec.eq_of_getLsbD_eq
  intro i hi
  simp only [wordOf, BitVec.getLsbD_and, BitVec.getLsbD_append, BitVec.getLsbD_ofNat]
  interval_cases i <;> simp [Nat.testBit, Nat.shiftRight_eq_div_pow]

theorem mask_rdss (op : BitVec 6) (ft : BitVec 2) (rd rs1 rs2 : RegIdx) :
    wordOf ⟨op, ft, rd, rs1, rs2, 0#9⟩ &&& 0xFF0001FF#32 = wordOf ⟨op, ft, 0, 0, 0, 0⟩ := by
  apply BitVec.eq_of_getLsbD_eq
  intro i hi
  simp only [wordOf, BitVec.getLsbD_and, BitVec.getLsbD_append, BitVec.getLsbD_ofNat]
  interval_cases i <;> simp [Nat.testBit, Nat.shiftRight_eq_div_pow]

theorem mask_rdsi (op : BitVec 6) (ft : BitVec 2) (rd rs1 : RegIdx) (imm : Imm9) :
    wordOf ⟨op, ft, rd, rs1, 0#5, imm⟩ &&& 0xFF003E00#32 = wordOf ⟨op, ft, 0, 0, 0, 0⟩ := by
  apply BitVec.eq_of_getLsbD_eq
  intro i hi
  simp only [wordOf, BitVec.getLsbD_and, BitVec.getLsbD_append, BitVec.getLsbD_ofNat]
  interval_cases i <;> simp [Nat.testBit, Nat.shiftRight_eq_div_pow]

theorem mask_s (op : BitVec 6) (ft : BitVec 2) (rs1 : RegIdx) :
    wordOf ⟨op, ft, 0#5, rs1, 0#5, 0#9⟩ &&& 0xFFF83FFF#32 = wordOf ⟨op, ft, 0, 0, 0, 0⟩ := by
  apply BitVec.eq_of_getLsbD_eq
  intro i hi
  simp only [wordOf, BitVec.getLsbD_and, BitVec.getLsbD_append, BitVec.getLsbD_ofNat]
  interval_cases i <;> simp [Nat.testBit, Nat.shiftRight_eq_div_pow]

/-! ## The instructions -/

theorem halt : Statement (.halt) := by
  intro _
  exact (mask_n _ _).trans (by rfl)

theorem nop : Statement (.nop) := by
  intro _
  exact (mask_n _ _).trans (by rfl)

theorem jmp (target : Imm9) : Statement (.jmp target) := by
  intro _
  exact (mask_j _ _ _).trans (by rfl)

theorem bt (target : Imm9) : Statement (.bt target) := by
  intro _
  exact (mask_j _ _ _).trans (by rfl)

theorem bf (target : Imm9) : Statement (.bf target) := by
  intro _
  exact (mask_j _ _ _).trans (by rfl)

theorem mov (rd rs1 : RegIdx) : Statement (.mov rd rs1) := by
  intro _
  exact (mask_rds _ _ _ _).trans (by rfl)

theorem clr (rd : RegIdx) : Statement (.clr rd) := by
  intro _
  exact (mask_rd _ _ _).trans (by rfl)

theorem eq (rs1 rs2 : RegIdx) : Statement (.eq rs1 rs2) := by
  intro _
  exact (mask_ss _ _ _ _).trans (by rfl)

theorem zeroFp (rd : RegIdx) : Statement (.zeroFp rd) := by
  intro _
  exact (mask_rd _ _ _).trans (by rfl)

theorem zeroFp2 (rd : RegIdx) : Statement (.zeroFp2 rd) := by
  intro _
  exact (mask_rd _ _ _).trans (by rfl)

theorem zeroFp6 (rd : RegIdx) : Statement (.zeroFp6 rd) := by
  intro _
  exact (mask_rd _ _ _).trans (by rfl)

theorem zeroFp12 (rd : RegIdx) : Statement (.zeroFp12 rd) := by
  intro _
  exact (mask_rd _ _ _).trans (by rfl)

theorem oneFp (rd : RegIdx) : Statement (.oneFp rd) := by
  intro _
  exact (mask_rd _ _ _).trans (by rfl)

theorem oneFp2 (rd : RegIdx) : Statement (.oneFp2 rd) := by
  intro _
  exact (mask_rd _ _ _).trans (by rfl)

theorem oneFp6 (rd : RegIdx) : Statement (.oneFp6 rd) := by
  intro _
  exact (mask_rd _ _ _).trans (by rfl)

theorem oneFp12 (rd : RegIdx) : Statement (.oneFp12 rd) := by
  intro _
  exact (mask_rd _ _ _).trans (by rfl)

theorem ldFp (rd : RegIdx) (g : Imm9) : Statement (.ldFp rd g) := by
  intro _
  exact (mask_ld _ _ _ _).trans (by rfl)

theorem ldFp2 (rd : RegIdx) (g : Imm9) : Statement (.ldFp2 rd g) := by
  intro _
  exact (mask_ld _ _ _ _).trans (by rfl)

theorem ldFp6 (rd : RegIdx) (g : Imm9) : Statement (.ldFp6 rd g) := by
  intro _
  exact (mask_ld _ _ _ _).trans (by rfl)

theorem ldFp12 (rd : RegIdx) (g : Imm9) : Statement (.ldFp12 rd g) := by
  intro _
  exact (mask_ld _ _ _ _).trans (by rfl)

theorem stFp (g : Imm9) (rs1 : RegIdx) : Statement (.stFp g rs1) := by
  intro _
  exact (mask_st _ _ _ _).trans (by rfl)

theorem stFp2 (g : Imm9) (rs1 : RegIdx) : Statement (.stFp2 g rs1) := by
  intro _
  exact (mask_st _ _ _ _).trans (by rfl)

theorem stFp6 (g : Imm9) (rs1 : RegIdx) : Statement (.stFp6 g rs1) := by
  intro _
  exact (mask_st _ _ _ _).trans (by rfl)

theorem stFp12 (g : Imm9) (rs1 : RegIdx) : Statement (.stFp12 g rs1) := by
  intro _
  exact (mask_st _ _ _ _).trans (by rfl)

theorem ldg1 (rd : RegIdx) (g : Imm9) : Statement (.ldg1 rd g) := by
  intro _
  exact (mask_ld _ _ _ _).trans (by rfl)

theorem ldg2 (rd : RegIdx) (g : Imm9) : Statement (.ldg2 rd g) := by
  intro _
  exact (mask_ld _ _ _ _).trans (by rfl)

theorem stg1 (g : Imm9) (rs1 : RegIdx) : Statement (.stg1 g rs1) := by
  intro _
  exact (mask_st _ _ _ _).trans (by rfl)

theorem stg2 (g : Imm9) (rs1 : RegIdx) : Statement (.stg2 g rs1) := by
  intro _
  exact (mask_st _ _ _ _).trans (by rfl)

theorem ldsc (rd : RegIdx) (g : Imm9) : Statement (.ldsc rd g) := by
  intro _
  exact (mask_ld _ _ _ _).trans (by rfl)

theorem stsc (g : Imm9) (rs1 : RegIdx) : Statement (.stsc g rs1) := by
  intro _
  exact (mask_st _ _ _ _).trans (by rfl)

theorem mlinit (rs1 rs2 : RegIdx) : Statement (.mlinit rs1 rs2) := by
  intro _
  exact (mask_ss _ _ _ _).trans (by rfl)

theorem mlstep : Statement (.mlstep) := by
  intro _
  exact (mask_n _ _).trans (by rfl)

theorem miller (rd rs1 rs2 : RegIdx) : Statement (.miller rd rs1 rs2) := by
  intro _
  exact (mask_rdss _ _ _ _ _).trans (by rfl)

theorem mlrdf (rd : RegIdx) : Statement (.mlrdf rd) := by
  intro _
  exact (mask_rd _ _ _).trans (by rfl)

theorem mlrdt (rd : RegIdx) : Statement (.mlrdt rd) := by
  intro _
  exact (mask_rd _ _ _).trans (by rfl)

theorem mlrdl (rd : RegIdx) : Statement (.mlrdl rd) := by
  intro _
  exact (mask_rd _ _ _).trans (by rfl)

theorem mldone : Statement (.mldone) := by
  intro _
  exact (mask_n _ _).trans (by rfl)

theorem fexp (rd rs1 : RegIdx) : Statement (.fexp rd rs1) := by
  intro _
  exact (mask_rds _ _ _ _).trans (by rfl)

theorem addFp (rd rs1 rs2 : RegIdx) : Statement (.addFp rd rs1 rs2) := by
  intro _
  exact (mask_rdss _ _ _ _ _).trans (by rfl)

theorem addFp2 (rd rs1 rs2 : RegIdx) : Statement (.addFp2 rd rs1 rs2) := by
  intro _
  exact (mask_rdss _ _ _ _ _).trans (by rfl)

theorem addFp6 (rd rs1 rs2 : RegIdx) : Statement (.addFp6 rd rs1 rs2) := by
  intro _
  exact (mask_rdss _ _ _ _ _).trans (by rfl)

theorem addFp12 (rd rs1 rs2 : RegIdx) : Statement (.addFp12 rd rs1 rs2) := by
  intro _
  exact (mask_rdss _ _ _ _ _).trans (by rfl)

theorem subFp (rd rs1 rs2 : RegIdx) : Statement (.subFp rd rs1 rs2) := by
  intro _
  exact (mask_rdss _ _ _ _ _).trans (by rfl)

theorem subFp2 (rd rs1 rs2 : RegIdx) : Statement (.subFp2 rd rs1 rs2) := by
  intro _
  exact (mask_rdss _ _ _ _ _).trans (by rfl)

theorem subFp6 (rd rs1 rs2 : RegIdx) : Statement (.subFp6 rd rs1 rs2) := by
  intro _
  exact (mask_rdss _ _ _ _ _).trans (by rfl)

theorem subFp12 (rd rs1 rs2 : RegIdx) : Statement (.subFp12 rd rs1 rs2) := by
  intro _
  exact (mask_rdss _ _ _ _ _).trans (by rfl)

theorem negFp (rd rs1 : RegIdx) : Statement (.negFp rd rs1) := by
  intro _
  exact (mask_rds _ _ _ _).trans (by rfl)

theorem negFp2 (rd rs1 : RegIdx) : Statement (.negFp2 rd rs1) := by
  intro _
  exact (mask_rds _ _ _ _).trans (by rfl)

theorem negFp6 (rd rs1 : RegIdx) : Statement (.negFp6 rd rs1) := by
  intro _
  exact (mask_rds _ _ _ _).trans (by rfl)

theorem negFp12 (rd rs1 : RegIdx) : Statement (.negFp12 rd rs1) := by
  intro _
  exact (mask_rds _ _ _ _).trans (by rfl)

theorem mulFp (rd rs1 rs2 : RegIdx) : Statement (.mulFp rd rs1 rs2) := by
  intro _
  exact (mask_rdss _ _ _ _ _).trans (by rfl)

theorem mulFp2 (rd rs1 rs2 : RegIdx) : Statement (.mulFp2 rd rs1 rs2) := by
  intro _
  exact (mask_rdss _ _ _ _ _).trans (by rfl)

theorem mulFp6 (rd rs1 rs2 : RegIdx) : Statement (.mulFp6 rd rs1 rs2) := by
  intro _
  exact (mask_rdss _ _ _ _ _).trans (by rfl)

theorem mulFp12 (rd rs1 rs2 : RegIdx) : Statement (.mulFp12 rd rs1 rs2) := by
  intro _
  exact (mask_rdss _ _ _ _ _).trans (by rfl)

theorem sqrFp (rd rs1 : RegIdx) : Statement (.sqrFp rd rs1) := by
  intro _
  exact (mask_rds _ _ _ _).trans (by rfl)

theorem sqrFp2 (rd rs1 : RegIdx) : Statement (.sqrFp2 rd rs1) := by
  intro _
  exact (mask_rds _ _ _ _).trans (by rfl)

theorem sqrFp6 (rd rs1 : RegIdx) : Statement (.sqrFp6 rd rs1) := by
  intro _
  exact (mask_rds _ _ _ _).trans (by rfl)

theorem sqrFp12 (rd rs1 : RegIdx) : Statement (.sqrFp12 rd rs1) := by
  intro _
  exact (mask_rds _ _ _ _).trans (by rfl)

theorem invFp (rd rs1 : RegIdx) : Statement (.invFp rd rs1) := by
  intro _
  exact (mask_rds _ _ _ _).trans (by rfl)

theorem invFp2 (rd rs1 : RegIdx) : Statement (.invFp2 rd rs1) := by
  intro _
  exact (mask_rds _ _ _ _).trans (by rfl)

theorem invFp6 (rd rs1 : RegIdx) : Statement (.invFp6 rd rs1) := by
  intro _
  exact (mask_rds _ _ _ _).trans (by rfl)

theorem invFp12 (rd rs1 : RegIdx) : Statement (.invFp12 rd rs1) := by
  intro _
  exact (mask_rds _ _ _ _).trans (by rfl)

theorem powFp (rd rs1 rs2 : RegIdx) : Statement (.powFp rd rs1 rs2) := by
  intro _
  exact (mask_rdss _ _ _ _ _).trans (by rfl)

theorem powFp2 (rd rs1 rs2 : RegIdx) : Statement (.powFp2 rd rs1 rs2) := by
  intro _
  exact (mask_rdss _ _ _ _ _).trans (by rfl)

theorem powFp6 (rd rs1 rs2 : RegIdx) : Statement (.powFp6 rd rs1 rs2) := by
  intro _
  exact (mask_rdss _ _ _ _ _).trans (by rfl)

theorem powFp12 (rd rs1 rs2 : RegIdx) : Statement (.powFp12 rd rs1 rs2) := by
  intro _
  exact (mask_rdss _ _ _ _ _).trans (by rfl)

theorem conjFp2 (rd rs1 : RegIdx) : Statement (.conjFp2 rd rs1) := by
  intro _
  exact (mask_rds _ _ _ _).trans (by rfl)

theorem conjFp12 (rd rs1 : RegIdx) : Statement (.conjFp12 rd rs1) := by
  intro _
  exact (mask_rds _ _ _ _).trans (by rfl)

theorem frobFp (rd rs1 : RegIdx) (imm : Imm9) : Statement (.frobFp rd rs1 imm) := by
  intro _
  exact (mask_rdsi _ _ _ _ _).trans (by rfl)

theorem frobFp2 (rd rs1 : RegIdx) (imm : Imm9) : Statement (.frobFp2 rd rs1 imm) := by
  intro _
  exact (mask_rdsi _ _ _ _ _).trans (by rfl)

theorem frobFp6 (rd rs1 : RegIdx) (imm : Imm9) : Statement (.frobFp6 rd rs1 imm) := by
  intro _
  exact (mask_rdsi _ _ _ _ _).trans (by rfl)

theorem frobFp12 (rd rs1 : RegIdx) (imm : Imm9) : Statement (.frobFp12 rd rs1 imm) := by
  intro _
  exact (mask_rdsi _ _ _ _ _).trans (by rfl)

theorem mulxi (rd rs1 : RegIdx) : Statement (.mulxi rd rs1) := by
  intro _
  exact (mask_rds _ _ _ _).trans (by rfl)

theorem iszeroFp (rs1 : RegIdx) : Statement (.iszeroFp rs1) := by
  intro _
  exact (mask_s _ _ _).trans (by rfl)

theorem iszeroFp2 (rs1 : RegIdx) : Statement (.iszeroFp2 rs1) := by
  intro _
  exact (mask_s _ _ _).trans (by rfl)

theorem iszeroFp6 (rs1 : RegIdx) : Statement (.iszeroFp6 rs1) := by
  intro _
  exact (mask_s _ _ _).trans (by rfl)

theorem iszeroFp12 (rs1 : RegIdx) : Statement (.iszeroFp12 rs1) := by
  intro _
  exact (mask_s _ _ _).trans (by rfl)

theorem isoneFp (rs1 : RegIdx) : Statement (.isoneFp rs1) := by
  intro _
  exact (mask_s _ _ _).trans (by rfl)

theorem isoneFp2 (rs1 : RegIdx) : Statement (.isoneFp2 rs1) := by
  intro _
  exact (mask_s _ _ _).trans (by rfl)

theorem isoneFp6 (rs1 : RegIdx) : Statement (.isoneFp6 rs1) := by
  intro _
  exact (mask_s _ _ _).trans (by rfl)

theorem isoneFp12 (rs1 : RegIdx) : Statement (.isoneFp12 rs1) := by
  intro _
  exact (mask_s _ _ _).trans (by rfl)

theorem embFp2 (rd rs1 : RegIdx) : Statement (.embFp2 rd rs1) := by
  intro _
  exact (mask_rds _ _ _ _).trans (by rfl)

theorem embFp6 (rd rs1 : RegIdx) : Statement (.embFp6 rd rs1) := by
  intro _
  exact (mask_rds _ _ _ _).trans (by rfl)

theorem embFp12 (rd rs1 : RegIdx) : Statement (.embFp12 rd rs1) := by
  intro _
  exact (mask_rds _ _ _ _).trans (by rfl)

theorem mkfp2 (rd rs1 rs2 : RegIdx) : Statement (.mkfp2 rd rs1 rs2) := by
  intro _
  exact (mask_rdss _ _ _ _ _).trans (by rfl)

theorem paddG1 (rd rs1 rs2 : RegIdx) : Statement (.paddG1 rd rs1 rs2) := by
  intro _
  exact (mask_rdss _ _ _ _ _).trans (by rfl)

theorem paddG2 (rd rs1 rs2 : RegIdx) : Statement (.paddG2 rd rs1 rs2) := by
  intro _
  exact (mask_rdss _ _ _ _ _).trans (by rfl)

theorem pdblG1 (rd rs1 : RegIdx) : Statement (.pdblG1 rd rs1) := by
  intro _
  exact (mask_rds _ _ _ _).trans (by rfl)

theorem pdblG2 (rd rs1 : RegIdx) : Statement (.pdblG2 rd rs1) := by
  intro _
  exact (mask_rds _ _ _ _).trans (by rfl)

theorem pnegG1 (rd rs1 : RegIdx) : Statement (.pnegG1 rd rs1) := by
  intro _
  exact (mask_rds _ _ _ _).trans (by rfl)

theorem pnegG2 (rd rs1 : RegIdx) : Statement (.pnegG2 rd rs1) := by
  intro _
  exact (mask_rds _ _ _ _).trans (by rfl)

theorem pmulG1 (rd rs1 rs2 : RegIdx) : Statement (.pmulG1 rd rs1 rs2) := by
  intro _
  exact (mask_rdss _ _ _ _ _).trans (by rfl)

theorem pmulG2 (rd rs1 rs2 : RegIdx) : Statement (.pmulG2 rd rs1 rs2) := by
  intro _
  exact (mask_rdss _ _ _ _ _).trans (by rfl)

theorem ptojG1 (rd rs1 : RegIdx) : Statement (.ptojG1 rd rs1) := by
  intro _
  exact (mask_rds _ _ _ _).trans (by rfl)

theorem ptojG2 (rd rs1 : RegIdx) : Statement (.ptojG2 rd rs1) := by
  intro _
  exact (mask_rds _ _ _ _).trans (by rfl)

theorem ptoaG1 (rd rs1 : RegIdx) : Statement (.ptoaG1 rd rs1) := by
  intro _
  exact (mask_rds _ _ _ _).trans (by rfl)

theorem ptoaG2 (rd rs1 : RegIdx) : Statement (.ptoaG2 rd rs1) := by
  intro _
  exact (mask_rds _ _ _ _).trans (by rfl)

theorem isinfG1 (rs1 : RegIdx) : Statement (.isinfG1 rs1) := by
  intro _
  exact (mask_s _ _ _).trans (by rfl)

theorem isinfG2 (rs1 : RegIdx) : Statement (.isinfG2 rs1) := by
  intro _
  exact (mask_s _ _ _).trans (by rfl)

theorem pinfG1 (rd : RegIdx) : Statement (.pinfG1 rd) := by
  intro _
  exact (mask_rd _ _ _).trans (by rfl)

theorem pinfG2 (rd : RegIdx) : Statement (.pinfG2 rd) := by
  intro _
  exact (mask_rd _ _ _).trans (by rfl)

/-! COEF's rows fix also the upper bits of the immediate, which the bound on the index keeps 0. -/

theorem high_bit_false {imm : Imm9} {n j : Nat} (h : imm.toNat < 2 ^ n) (hj : n ≤ j) : imm.getLsbD j = false :=
  Nat.testBit_lt_two_pow (lt_of_lt_of_le h (Nat.pow_le_pow_right (by decide) hj))

theorem coefFp (rd rs1 : RegIdx) (imm : Imm9) : Statement (.coefFp rd rs1 imm) := by
  intro hw
  have hk : imm.toNat < 2 ^ 0 := lt_of_lt_of_le (show imm.toNat < 1 from of_decide_eq_true hw) (by decide)
  have h0 := high_bit_false hk (show 0 ≤ 0 by decide)
  have h1 := high_bit_false hk (show 0 ≤ 1 by decide)
  have h2 := high_bit_false hk (show 0 ≤ 2 by decide)
  have h3 := high_bit_false hk (show 0 ≤ 3 by decide)
  have h4 := high_bit_false hk (show 0 ≤ 4 by decide)
  have h5 := high_bit_false hk (show 0 ≤ 5 by decide)
  have h6 := high_bit_false hk (show 0 ≤ 6 by decide)
  have h7 := high_bit_false hk (show 0 ≤ 7 by decide)
  have h8 := high_bit_false hk (show 0 ≤ 8 by decide)
  apply BitVec.eq_of_getLsbD_eq
  intro i hi
  simp only [encode, Instr.fields, row, wordOf, BitVec.getLsbD_and, BitVec.getLsbD_append, BitVec.getLsbD_ofNat]
  interval_cases i <;> simp_all [Nat.testBit, Nat.shiftRight_eq_div_pow]

theorem coefFp2 (rd rs1 : RegIdx) (imm : Imm9) : Statement (.coefFp2 rd rs1 imm) := by
  intro hw
  have hk : imm.toNat < 2 ^ 1 := lt_of_lt_of_le (show imm.toNat < 2 from of_decide_eq_true hw) (by decide)
  have h1 := high_bit_false hk (show 1 ≤ 1 by decide)
  have h2 := high_bit_false hk (show 1 ≤ 2 by decide)
  have h3 := high_bit_false hk (show 1 ≤ 3 by decide)
  have h4 := high_bit_false hk (show 1 ≤ 4 by decide)
  have h5 := high_bit_false hk (show 1 ≤ 5 by decide)
  have h6 := high_bit_false hk (show 1 ≤ 6 by decide)
  have h7 := high_bit_false hk (show 1 ≤ 7 by decide)
  have h8 := high_bit_false hk (show 1 ≤ 8 by decide)
  apply BitVec.eq_of_getLsbD_eq
  intro i hi
  simp only [encode, Instr.fields, row, wordOf, BitVec.getLsbD_and, BitVec.getLsbD_append, BitVec.getLsbD_ofNat]
  interval_cases i <;> simp_all [Nat.testBit, Nat.shiftRight_eq_div_pow]

theorem coefFp6 (rd rs1 : RegIdx) (imm : Imm9) : Statement (.coefFp6 rd rs1 imm) := by
  intro hw
  have hk : imm.toNat < 2 ^ 3 := lt_of_lt_of_le (show imm.toNat < 6 from of_decide_eq_true hw) (by decide)
  have h3 := high_bit_false hk (show 3 ≤ 3 by decide)
  have h4 := high_bit_false hk (show 3 ≤ 4 by decide)
  have h5 := high_bit_false hk (show 3 ≤ 5 by decide)
  have h6 := high_bit_false hk (show 3 ≤ 6 by decide)
  have h7 := high_bit_false hk (show 3 ≤ 7 by decide)
  have h8 := high_bit_false hk (show 3 ≤ 8 by decide)
  apply BitVec.eq_of_getLsbD_eq
  intro i hi
  simp only [encode, Instr.fields, row, wordOf, BitVec.getLsbD_and, BitVec.getLsbD_append, BitVec.getLsbD_ofNat]
  interval_cases i <;> simp_all [Nat.testBit, Nat.shiftRight_eq_div_pow]

theorem coefFp12 (rd rs1 : RegIdx) (imm : Imm9) : Statement (.coefFp12 rd rs1 imm) := by
  intro hw
  have hk : imm.toNat < 2 ^ 4 := lt_of_lt_of_le (show imm.toNat < 12 from of_decide_eq_true hw) (by decide)
  have h4 := high_bit_false hk (show 4 ≤ 4 by decide)
  have h5 := high_bit_false hk (show 4 ≤ 5 by decide)
  have h6 := high_bit_false hk (show 4 ≤ 6 by decide)
  have h7 := high_bit_false hk (show 4 ≤ 7 by decide)
  have h8 := high_bit_false hk (show 4 ≤ 8 by decide)
  apply BitVec.eq_of_getLsbD_eq
  intro i hi
  simp only [encode, Instr.fields, row, wordOf, BitVec.getLsbD_and, BitVec.getLsbD_append, BitVec.getLsbD_ofNat]
  interval_cases i <;> simp_all [Nat.testBit, Nat.shiftRight_eq_div_pow]


end Sys2Proof.Laws.EncodeMatchesTable
end

