-- ==== Sys2Proof/Laws/Prime.lean ====
section
/-! SUPPORT. P is prime (42_fp.md R210), by Lucas' test along the factorisations of p − 1. -/

namespace Sys2Proof

/-- b^e mod m, by squaring, with `fuel` bits of e. -/
def powMod (m : Nat) : Nat → Nat → Nat → Nat
  | 0, _, _ => 1 % m
  | fuel + 1, b, e =>
    if e % 2 = 1 then b * powMod m fuel (b * b % m) (e / 2) % m else powMod m fuel (b * b % m) (e / 2)

theorem powMod_eq (m fuel b e : Nat) (h : e < 2 ^ fuel) : powMod m fuel b e = b ^ e % m := by
  induction fuel generalizing b e with
  | zero =>
    obtain rfl : e = 0 := by simpa using h
    simp [powMod]
  | succ fuel ih =>
    have h2 : e / 2 < 2 ^ fuel := by rw [pow_succ] at h; omega
    have hsq : (b * b % m) ^ (e / 2) % m = b ^ (2 * (e / 2)) % m := by
      rw [← Nat.pow_mod, ← pow_two, pow_mul]
    rw [powMod, ih _ _ h2, hsq]
    split
    · next ho =>
      rw [Nat.mul_mod_mod, ← pow_succ']
      congr 2
      omega
    · next ho =>
      congr 2
      omega

/-- Lucas' test with a full factorisation of p − 1. -/
theorem prime_of_factors {p : Nat} (a : Nat) (fs : List Nat) (hp : 1 < p) (hlt : p < 2 ^ 256)
    (hprod : fs.prod = p - 1) (hf : ∀ q ∈ fs, q.Prime) (h1 : powMod p 256 a (p - 1) = 1)
    (h2 : ∀ q ∈ fs, powMod p 256 a ((p - 1) / q) ≠ 1) : p.Prime := by
  have cast : ∀ e, e < 2 ^ 256 → ((a : ZMod p) ^ e = 1 ↔ powMod p 256 a e = 1) := by
    intro e he
    have h1p : 1 % p = 1 := Nat.mod_eq_of_lt hp
    rw [powMod_eq _ _ _ _ he, ← Nat.cast_pow, ← Nat.cast_one (R := ZMod p), ZMod.natCast_eq_natCast_iff']
    simp only [h1p]
  refine lucas_primality p (a : ZMod p) ((cast _ (by omega)).2 h1) ?_
  intro q hq hd h
  rw [← hprod, hq.prime.dvd_prod_iff] at hd
  obtain ⟨r, hr, hqr⟩ := hd
  obtain rfl : q = r := (Nat.prime_dvd_prime_iff_eq hq (hf r hr)).1 hqr
  exact h2 q hr ((cast _ (lt_of_le_of_lt (Nat.div_le_self _ _) (by omega))).1 h)

theorem prime_405928799 : Nat.Prime 405928799 :=
  prime_of_factors 22 [2, 11, 3691, 4999]
    (by decide) (by decide) (by decide +kernel) (by
    intro q hq
    simp only [List.mem_cons, List.not_mem_nil, or_false] at hq
    rcases hq with rfl | rfl | rfl | rfl
    · norm_num
    · norm_num
    · norm_num
    · norm_num
    ) (by decide +kernel) (by decide +kernel)

theorem prime_327599 : Nat.Prime 327599 :=
  prime_of_factors 19 [2, 19, 37, 233]
    (by decide) (by decide) (by decide +kernel) (by
    intro q hq
    simp only [List.mem_cons, List.not_mem_nil, or_false] at hq
    rcases hq with rfl | rfl | rfl | rfl
    · norm_num
    · norm_num
    · norm_num
    · norm_num
    ) (by decide +kernel) (by decide +kernel)

theorem prime_11465965001 : Nat.Prime 11465965001 :=
  prime_of_factors 3 [2, 2, 2, 5, 5, 5, 5, 7, 327599]
    (by decide) (by decide) (by decide +kernel) (by
    intro q hq
    simp only [List.mem_cons, List.not_mem_nil, or_false] at hq
    rcases hq with rfl | rfl | rfl | rfl | rfl | rfl | rfl | rfl | rfl
    · norm_num
    · norm_num
    · norm_num
    · norm_num
    · norm_num
    · norm_num
    · norm_num
    · norm_num
    · exact prime_327599
    ) (by decide +kernel) (by decide +kernel)

theorem prime_1853641 : Nat.Prime 1853641 :=
  prime_of_factors 17 [2, 2, 2, 3, 3, 5, 19, 271]
    (by decide) (by decide) (by decide +kernel) (by
    intro q hq
    simp only [List.mem_cons, List.not_mem_nil, or_false] at hq
    rcases hq with rfl | rfl | rfl | rfl | rfl | rfl | rfl | rfl
    · norm_num
    · norm_num
    · norm_num
    · norm_num
    · norm_num
    · norm_num
    · norm_num
    · norm_num
    ) (by decide +kernel) (by decide +kernel)

theorem prime_4562087 : Nat.Prime 4562087 :=
  prime_of_factors 5 [2, 17, 109, 1231]
    (by decide) (by decide) (by decide +kernel) (by
    intro q hq
    simp only [List.mem_cons, List.not_mem_nil, or_false] at hq
    rcases hq with rfl | rfl | rfl | rfl
    · norm_num
    · norm_num
    · norm_num
    · norm_num
    ) (by decide +kernel) (by decide +kernel)

theorem prime_173171039 : Nat.Prime 173171039 :=
  prime_of_factors 13 [2, 73, 89, 13327]
    (by decide) (by decide) (by decide +kernel) (by
    intro q hq
    simp only [List.mem_cons, List.not_mem_nil, or_false] at hq
    rcases hq with rfl | rfl | rfl | rfl
    · norm_num
    · norm_num
    · norm_num
    · norm_num
    ) (by decide +kernel) (by decide +kernel)

theorem prime_1263766531 : Nat.Prime 1263766531 :=
  prime_of_factors 10 [2, 3, 5, 13, 911, 3557]
    (by decide) (by decide) (by decide +kernel) (by
    intro q hq
    simp only [List.mem_cons, List.not_mem_nil, or_false] at hq
    rcases hq with rfl | rfl | rfl | rfl | rfl | rfl
    · norm_num
    · norm_num
    · norm_num
    · norm_num
    · norm_num
    · norm_num
    ) (by decide +kernel) (by decide +kernel)

theorem prime_35385462869 : Nat.Prime 35385462869 :=
  prime_of_factors 2 [2, 2, 7, 1263766531]
    (by decide) (by decide) (by decide +kernel) (by
    intro q hq
    simp only [List.mem_cons, List.not_mem_nil, or_false] at hq
    rcases hq with rfl | rfl | rfl | rfl
    · norm_num
    · norm_num
    · norm_num
    · exact prime_1263766531
    ) (by decide +kernel) (by decide +kernel)

theorem prime_2480874801745591 : Nat.Prime 2480874801745591 :=
  prime_of_factors 6 [2, 3, 3, 5, 19, 41, 35385462869]
    (by decide) (by decide) (by decide +kernel) (by
    intro q hq
    simp only [List.mem_cons, List.not_mem_nil, or_false] at hq
    rcases hq with rfl | rfl | rfl | rfl | rfl | rfl | rfl
    · norm_num
    · norm_num
    · norm_num
    · norm_num
    · norm_num
    · norm_num
    · exact prime_35385462869
    ) (by decide +kernel) (by decide +kernel)

theorem prime_13427688667394608761327070753331941386769 : Nat.Prime 13427688667394608761327070753331941386769 :=
  prime_of_factors 17 [2, 2, 2, 2, 3, 7, 11, 1853641, 4562087, 173171039, 2480874801745591]
    (by decide) (by decide) (by decide +kernel) (by
    intro q hq
    simp only [List.mem_cons, List.not_mem_nil, or_false] at hq
    rcases hq with rfl | rfl | rfl | rfl | rfl | rfl | rfl | rfl | rfl | rfl | rfl
    · norm_num
    · norm_num
    · norm_num
    · norm_num
    · norm_num
    · norm_num
    · norm_num
    · exact prime_1853641
    · exact prime_4562087
    · exact prime_173171039
    · exact prime_2480874801745591
    ) (by decide +kernel) (by decide +kernel)

theorem P_prime : P.Prime :=
  prime_of_factors 3 [2, 3, 3, 13, 29, 67, 229, 311, 983, 11003, 405928799, 11465965001, 13427688667394608761327070753331941386769]
    (by decide) (by decide) (by decide +kernel) (by
    intro q hq
    simp only [List.mem_cons, List.not_mem_nil, or_false] at hq
    rcases hq with rfl | rfl | rfl | rfl | rfl | rfl | rfl | rfl | rfl | rfl | rfl | rfl | rfl
    · norm_num
    · norm_num
    · norm_num
    · norm_num
    · norm_num
    · norm_num
    · norm_num
    · norm_num
    · norm_num
    · norm_num
    · exact prime_405928799
    · exact prime_11465965001
    · exact prime_13427688667394608761327070753331941386769
    ) (by decide +kernel) (by decide +kernel)

end Sys2Proof
end

