-- ==== Sys2Proof/Laws/Tower.lean ====
section
/-! SUPPORT. The values of the Fp operations, the extensionality of the tower's types, and the square-and-multiply loop
bit by bit (42_fp.md R210, 00_scope.md R16). -/

namespace Sys2Proof

/-! ## Fp -/

theorem Fp.ext_val {a b : Fp} (h : a.val = b.val) : a = b := by
  cases a; cases b; cases h; rfl

theorem Fp.eq_iff_val (a b : Fp) : a = b ↔ a.val = b.val := ⟨fun h => h ▸ rfl, Fp.ext_val⟩

@[simp] theorem Fp.val_ofNat (n : Nat) : (Fp.ofNat n).val = n % P := rfl
@[simp] theorem Fp.val_zero : Fp.zero.val = 0 := rfl
@[simp] theorem Fp.val_one : Fp.one.val = 1 := rfl
theorem Fp.val_add (a b : Fp) : (a.add b).val = (a.val + b.val) % P := rfl
theorem Fp.val_sub (a b : Fp) : (a.sub b).val = (a.val + (P - b.val)) % P := rfl
theorem Fp.val_neg (a : Fp) : a.neg.val = (P - a.val) % P := rfl
theorem Fp.val_mul (a b : Fp) : (a.mul b).val = a.val * b.val % P := rfl
@[simp] theorem Fp.ofNat_val (a : Fp) : Fp.ofNat a.val = a := Fp.ext_val (Nat.mod_eq_of_lt a.lt)

/-- An Fp value as a residue class of Mathlib's, in which every identity of rings can be used. -/
def Fp.toZMod (a : Fp) : ZMod P := (a.val : ZMod P)

theorem Fp.toZMod_ofNat (n : Nat) : (Fp.ofNat n).toZMod = (n : ZMod P) := by
  rw [Fp.toZMod, Fp.val_ofNat, ZMod.natCast_eq_natCast_iff', Nat.mod_mod]

theorem Fp.toZMod_injective : Function.Injective Fp.toZMod := by
  intro a b h
  rw [Fp.toZMod, Fp.toZMod, ZMod.natCast_eq_natCast_iff', Nat.mod_eq_of_lt a.lt, Nat.mod_eq_of_lt b.lt] at h
  exact Fp.ext_val h

theorem Fp.toZMod_zero : Fp.zero.toZMod = 0 := by rw [Fp.toZMod, Fp.val_zero, Nat.cast_zero]
theorem Fp.toZMod_one : Fp.one.toZMod = 1 := by rw [Fp.toZMod, Fp.val_one, Nat.cast_one]

theorem Fp.toZMod_add (a b : Fp) : (a.add b).toZMod = a.toZMod + b.toZMod := by
  rw [Fp.add, Fp.toZMod_ofNat, Nat.cast_add]; rfl

theorem Fp.toZMod_mul (a b : Fp) : (a.mul b).toZMod = a.toZMod * b.toZMod := by
  rw [Fp.mul, Fp.toZMod_ofNat, Nat.cast_mul]; rfl

theorem Fp.toZMod_sub (a b : Fp) : (a.sub b).toZMod = a.toZMod - b.toZMod := by
  rw [Fp.sub, Fp.toZMod_ofNat, Nat.cast_add, Nat.cast_sub (le_of_lt b.lt), ZMod.natCast_self, zero_sub, ← sub_eq_add_neg]
  rfl

theorem Fp.toZMod_neg (a : Fp) : a.neg.toZMod = -a.toZMod := by
  rw [Fp.neg, Fp.toZMod_ofNat, Nat.cast_sub (le_of_lt a.lt), ZMod.natCast_self, zero_sub]
  rfl

/-! ## Extensionality -/

theorem Fp2.ext_coeffs {a b : Fp2} (h0 : a.c0 = b.c0) (h1 : a.c1 = b.c1) : a = b := by
  cases a; cases b; cases h0; cases h1; rfl

theorem Fp6.ext_coeffs {a b : Fp6} (h0 : a.c0 = b.c0) (h1 : a.c1 = b.c1) (h2 : a.c2 = b.c2) : a = b := by
  cases a; cases b; cases h0; cases h1; cases h2; rfl

theorem Fp12.ext_coeffs {a b : Fp12} (h0 : a.c0 = b.c0) (h1 : a.c1 = b.c1) : a = b := by
  cases a; cases b; cases h0; cases h1; rfl

@[simp] theorem Fp2.length_coeffs (a : Fp2) : a.coeffs.length = 2 := rfl
@[simp] theorem Fp6.length_coeffs (a : Fp6) : a.coeffs.length = 6 := rfl
@[simp] theorem Fp12.length_coeffs (a : Fp12) : a.coeffs.length = 12 := rfl

/-! ## Square and multiply -/

section Loop
variable {T : Type} (op : T → T → T) (one a : T)

@[simp] theorem sqMulLoop_zero (e : Nat) (acc : T) : sqMulLoop op a e 0 acc = acc := rfl

theorem sqMulLoop_succ (e i : Nat) (acc : T) :
    sqMulLoop op a e (i + 1) acc =
      sqMulLoop op a e i (if e.testBit i then op (op acc acc) a else op acc acc) := rfl

@[simp] theorem sqMul_zero : sqMul op one a 0 = one := rfl

end Loop

end Sys2Proof
end

