-- ==== Sys2Proof/Tests/Slice0.lean ====
section
/-! SUPPORT. The model's own tests: words of 30_encoding.md R122 and vectors of 95_test_vectors.md and of the
instructions' rules, each about one step on a small state; the smoke test of WellFormed; and the witnesses that the
hypotheses of the statements can be met. -/

namespace Sys2Proof.Tests

/- One theorem at a time: elaborated in parallel, this file's many small theorems ask for more threads, each with a
stack of its own, than the check's memory limit has room for. -/
set_option Elab.async false

open Sys2Proof.Machine

/-! ## Helpers -/

/-- The reset state with some registers written. -/
def put (l : List (RegIdx × RegVal)) : State := l.foldl (fun s p => s.setReg p.1 p.2) State.reset

/-- A state with some granules written. -/
def putMem (l : List (Nat × Nat)) (s : State) : State := l.foldl (fun s p => s.setDmem (setWord s.dmem p.1 p.2)) s

/-- A state with the granules from `g` on written. -/
def putWords (g : Nat) (vs : List Nat) (s : State) : State := s.setDmem (setWords s.dmem g vs)

/-- Register `x` after an instruction that did not raise. -/
def regAfter (r : Result) (x : RegIdx) : Option RegVal :=
  match r with
  | .next t => if t.run = .fault then none else some (t.reg x)
  | .fault _ => none
  | .refused _ => none

/-- FLAG after an instruction that did not raise. -/
def flagAfter (r : Result) : Option Bool :=
  match r with
  | .next t => if t.run = .fault then none else some t.flag
  | .fault _ => none
  | .refused _ => none

/-- PC and STATE after an instruction. -/
def pcAfter (r : Result) : Option (BitVec 10 × RunState) :=
  match r with
  | .next t => some (t.pc, t.run)
  | .fault _ => none
  | .refused _ => none

/-- The words of the granules listed, after an instruction that did not raise. -/
def wordsAfter (r : Result) (gs : List Nat) : Option (List Nat) :=
  match r with
  | .next t => if t.run = .fault then none else some (gs.map (word t))
  | .fault _ => none
  | .refused _ => none

/-- CAUSE and FINFO after an instruction that raised. -/
def trapAfter (r : Result) : Option (BitVec 5 × Word) :=
  match r with
  | .next t => if t.run = .fault then some (t.cause, t.finfo) else none
  | .fault _ => none
  | .refused _ => none

/-- The Miller unit after an instruction that did not raise. -/
def mlAfter (r : Result) : Option Miller :=
  match r with
  | .next t => if t.run = .fault then none else some t.ml
  | .fault _ => none
  | .refused _ => none

def n (k : Nat) : Fp := Fp.ofNat k
def e2 (a b : Nat) : Fp2 := ⟨n a, n b⟩
def e6 (a b c d e f : Nat) : Fp6 := ⟨e2 a b, e2 c d, e2 e f⟩
def e12 (a b c d e f g h i j k l : Nat) : Fp12 := ⟨e6 a b c d e f, e6 g h i j k l⟩

/-- The values A and B of 45_fp12.md R325. -/
def vA : Fp12 := e12 1 2 3 4 5 6 7 8 9 10 11 12
def vB : Fp12 := e12 13 14 15 16 17 18 19 20 21 22 23 24

/-- The G1 generator and its double (46_g1.md R363). -/
def g1a : G1 := .aff (n 1) (n 2)
def g1b : G1 :=
  .aff (n 1368015179489954701390400359078579693043519447331113978918064868415326638035)
    (n 9918110051302171585080402603319702774565515993150576347155970296011118125764)
/-- Three times the G1 generator. -/
def g1c : G1 :=
  .aff (n 3353031288059533942658390886683067124040920775575537747144343083137631628272)
    (n 19321533766552368860946552437480515441416830039777911637913418824951667761761)

/-- The G2 generator of vector V-K2, its double (47_g2.md R394) and its triple (R398). -/
def g2a : G2 :=
  .aff
    (e2 10857046999023057135944570762232829481370756359578518086990519993285655852781
      11559732032986387107991004021392285783925812861821192530917403151452391805634)
    (e2 8495653923123431417604973247489272438418190587263600148770280649306958101930
      4082367875863433681332203403145435568316851327593401208105741076214120093531)
def g2b : G2 :=
  .aff
    (e2 18029695676650738226693292988307914797657423701064905010927197838374790804409
      14583779054894525174450323658765874724019480979794335525732096752006891875705)
    (e2 2140229616977736810657479771656733941598412651537078903776637920509952744750
      11474861747383700316476719153975578001603231366361248090558603872215261634898)
def g2c : G2 :=
  .aff
    (e2 2725019753478801796453339367788033689375851816420509565303521482350756874229
      7273165102799931111715871471550377909735733521218303035754523677688038059653)
    (e2 2512659008974376214222774206987427162027254181373325676825515531566330959255
      957874124722006818841961785324909313781880061366718538693995380805373202866)

/-! ## WellFormed: an ill-formed term for its one check, at each level (30_encoding.md R118 (d)) -/

theorem test_wf_refuses_coefFp :
    (Instr.coefFp 2 1 1).wf = false ∧ (Instr.coefFp 2 1 0).wf = true := by decide

theorem test_wf_refuses_coefFp2 :
    (Instr.coefFp2 2 1 2).wf = false ∧ (Instr.coefFp2 2 1 1).wf = true := by decide

theorem test_wf_refuses_coefFp6 :
    (Instr.coefFp6 2 1 6).wf = false ∧ (Instr.coefFp6 2 1 5).wf = true := by decide

theorem test_wf_refuses_coefFp12 :
    (Instr.coefFp12 2 1 12).wf = false ∧ (Instr.coefFp12 2 1 11).wf = true := by decide

/-! ## Decode: words written out from the encoding (30_encoding.md R122, vectors V-E1 and V-E2) -/

theorem test_decode_control :
    decode 0x04000000#32 = .ok (.halt) ∧
    decode 0x08000000#32 = .ok (.nop) ∧
    decode 0x0C000005#32 = .ok (.jmp 5) ∧
    decode 0x1000000C#32 = .ok (.bt 12) ∧
    decode 0x14000003#32 = .ok (.bf 3) ∧
    decode 0x18104000#32 = .ok (.mov 2 1) ∧
    decode 0x1C200000#32 = .ok (.clr 4) ∧
    decode 0x2000C800#32 = .ok (.eq 3 4) := by decide

theorem test_decode_load_store :
    decode 0x40080000#32 = .ok (.ldFp 1 0) ∧
    decode 0x4328000C#32 = .ok (.ldFp12 5 12) ∧
    decode 0x4501C003#32 = .ok (.stFp2 3 7) ∧
    decode 0x48080000#32 = .ok (.ldg1 1 0) ∧
    decode 0x4C100002#32 = .ok (.ldg2 2 2) ∧
    decode 0x5003401E#32 = .ok (.stg1 30 13) := by decide

theorem test_decode_field :
    decode 0x80184400#32 = .ok (.addFp 3 1 2) ∧
    decode 0x8FA52A00#32 = .ok (.mulFp12 20 20 21) ∧
    decode 0xA3104002#32 = .ok (.frobFp12 2 1 2) ∧
    decode 0xBB49000B#32 = .ok (.coefFp12 9 4 11) ∧
    decode 0xAF050000#32 = .ok (.isoneFp12 20) := by decide

theorem test_decode_point :
    decode 0xCC725600#32 = .ok (.pmulG1 14 9 11) ∧
    decode 0xC1184400#32 = .ok (.paddG2 3 1 2) := by decide

theorem test_decode_pairing :
    decode 0x60008200#32 = .ok (.mlinit 2 1) ∧
    decode 0x64000000#32 = .ok (.mlstep) ∧
    decode 0x68A08200#32 = .ok (.miller 20 2 1) ∧
    decode 0x7CA50000#32 = .ok (.fexp 20 20) := by decide

/-- Words put together from the fields of R111 and the opcode map of R116, one for each remaining family. -/
theorem test_decode_fields :
    decode 0x8D184400#32 = .ok (.mulFp2 3 1 2) ∧
    decode 0x9D184000#32 = .ok (.conjFp2 3 1) ∧
    decode 0xA4184000#32 = .ok (.mulxi 3 1) ∧
    decode 0xB4184400#32 = .ok (.mkfp2 3 1 2) ∧
    decode 0x96FF8000#32 = .ok (.invFp6 31 30) ∧
    decode 0xB2184000#32 = .ok (.embFp6 3 1) ∧
    decode 0xBA184005#32 = .ok (.coefFp6 3 1 5) ∧
    decode 0x5C07C1FF#32 = .ok (.stsc 511 31) ∧
    decode 0x58F801FF#32 = .ok (.ldsc 31 511) ∧
    decode 0x5400C007#32 = .ok (.stg2 7 3) ∧
    decode 0x6C200000#32 = .ok (.mlrdf 4) ∧
    decode 0x70280000#32 = .ok (.mlrdt 5) ∧
    decode 0x74300000#32 = .ok (.mlrdl 6) ∧
    decode 0x78000000#32 = .ok (.mldone) ∧
    decode 0xC4184000#32 = .ok (.pdblG1 3 1) ∧
    decode 0xC9184000#32 = .ok (.pnegG2 3 1) ∧
    decode 0xD1184000#32 = .ok (.ptojG2 3 1) ∧
    decode 0xD4184000#32 = .ok (.ptoaG1 3 1) ∧
    decode 0xD9024000#32 = .ok (.isinfG2 9) ∧
    decode 0xDD480000#32 = .ok (.pinfG2 9) := by decide

theorem test_decode_illegal :
    decode 0x00000000#32 = .illegal .opcode ∧
    decode 0xFC000000#32 = .illegal .opcode ∧
    decode 0x9C088000#32 = .illegal .ft ∧
    decode 0x04080000#32 = .illegal .unusedField ∧
    decode 0xB920C002#32 = .illegal .coefIndex ∧
    decode 0xB8104001#32 = .illegal .coefIndex ∧
    decode 0xC2184400#32 = .illegal .ft ∧
    decode 0x2C000000#32 = .illegal .opcode ∧
    decode 0x49080000#32 = .illegal .ft := by decide

theorem test_decode_table_word :
    decodeTableWord 32 0x80184400 = some (.addFp 3 1 2) ∧ decodeTableWord 32 0 = none := by decide

/-! ## The cycle: fetch, traps and the host (60_exceptions.md) -/

theorem test_step_runs_word :
    (match step (State.reset.withFetchWord 32 0x08000000) with
      | .next t => decide (t = (State.reset.withFetchWord 32 0x08000000).advance)
      | _ => false) = true := by decide +kernel

theorem test_step_illegal :
    trapAfter (step (State.reset.withFetchWord 32 0)) = some (1, 0) := by decide +kernel

theorem test_step_fetch_bounds :
    trapAfter (step { State.reset with run := .busy, pc := 512 }) = some (2, 512) := by decide +kernel

/-- ADD.FP x3, x1, x2 with x2 EMPTY: EMPTY_READ(2), and nothing but the trap registers changes. -/
theorem test_step_trap_keeps_pc :
    (match step ((put [(1, .fp (n 5))]).withFetchWord 32 0x80184400) with
      | .next t => decide (t = { (put [(1, .fp (n 5))]).withFetchWord 32 0x80184400 with
          run := .fault, cause := 3, finsn := 0x80184400#32, finfo := 2, irqPend := true })
      | _ => false) = true := by decide +kernel

theorem test_host_start :
    (match step { State.reset with hostQ := [.write 4 5], cause := 3, run := .fault } with
      | .next t => decide (t = { State.reset with run := .busy, irqEn := true })
      | _ => false) = true := by decide +kernel

theorem test_host_refused :
    (match step { State.reset with hostQ := [.read 0x4000], run := .busy } with
      | .next t => decide (t = { State.reset with run := .busy, hostErr := true })
      | _ => false) = true := by decide +kernel

/-- 20_memory.md R83: Word(0) = 1 puts 1 at host offset 0x401C. -/
theorem test_host_dmem_word :
    (match step (putMem [(0, 1)] { State.reset with hostQ := [.read 0x401C] }) with
      | .next t => t.rdata
      | _ => 0) = 1 := by decide +kernel

/-! ## Control (40_control.md, V-C1 to V-C3) -/

theorem test_halt :
    pcAfter (exec .halt { State.reset with pc := 28, run := .busy }) = some (29, .halted) := by decide +kernel

theorem test_nop :
    pcAfter (exec .nop { State.reset with pc := 4, run := .busy }) = some (5, .busy) := by decide +kernel

theorem test_jmp :
    pcAfter (exec (.jmp 5) { State.reset with pc := 9, run := .busy }) = some (5, .busy) := by decide +kernel

theorem test_bt :
    pcAfter (exec (.bt 12) { State.reset with pc := 27, flag := true }) = some (12, .idle) ∧
    pcAfter (exec (.bt 12) { State.reset with pc := 27 }) = some (28, .idle) := by decide +kernel

theorem test_bf :
    pcAfter (exec (.bf 12) { State.reset with pc := 27, flag := true }) = some (28, .idle) ∧
    pcAfter (exec (.bf 12) { State.reset with pc := 27 }) = some (12, .idle) := by decide +kernel

theorem test_mov :
    regAfter (exec (.mov 2 1) (put [(1, .g1j g1a)])) 2 = some (.g1j g1a) := by decide +kernel

theorem test_mov_empty :
    trapAfter (exec (.mov 5 4) State.reset) = some (3, 4) := by decide +kernel

theorem test_clr :
    regAfter (exec (.clr 4) (put [(4, .fp (n 7))])) 4 = some .empty := by decide +kernel

theorem test_eq_points :
    flagAfter (exec (.eq 1 2) (put [(1, .g1 g1c), (2, .g1j g1c)])) = some true ∧
    flagAfter (exec (.eq 1 2) (put [(1, .g1 .inf), (2, .g1 g1a)])) = some false := by decide +kernel

theorem test_eq_kinds :
    trapAfter (exec (.eq 1 2) (put [(1, .fp (n 5)), (2, .sc 5)])) = some (4, 2) := by decide +kernel

/-! ## Loads and stores (41_load_store.md, V-L1 to V-L6) -/

theorem test_ldFp :
    regAfter (exec (.ldFp 1 0) (putMem [(0, P - 1)] State.reset)) 1 = some (.fp (n (P - 1))) := by decide +kernel

theorem test_ldFp_decode :
    trapAfter (exec (.ldFp 1 0) (putMem [(0, P)] State.reset)) = some (6, 0) := by decide +kernel

theorem test_ldFp2 :
    regAfter (exec (.ldFp2 2 4) (putMem [(4, 9), (5, 1)] State.reset)) 2 = some (.fp2 Fp2.xi) := by decide +kernel

theorem test_ldFp2_decode :
    trapAfter (exec (.ldFp2 1 4) (putMem [(4, 1), (5, P)] State.reset)) = some (6, 5) := by decide +kernel

theorem test_ldFp6 (s : State) (hs : ∀ k < 6, word s (506 + k) = k + 1) (hb : s.run = .busy) :
    regAfter (exec (.ldFp6 2 506) s) 2 = some (.fp6 (e6 1 2 3 4 5 6)) := by
  have h : fp6Word s 506 = .ok (e6 1 2 3 4 5 6) := fp6Word_of fun k hk => by
    rw [hs k hk]; revert k; decide
  simp [exec, execLdFp6, loadFrom_eq, h, commitReg, regAfter, Except.map, hb, Config.granules]

theorem test_ldFp12 (s : State) (hs : ∀ k < 12, word s (12 + k) = k + 1) (hb : s.run = .busy) :
    regAfter (exec (.ldFp12 5 12) s) 5 = some (.fp12 vA) := by
  have h : fp12Word s 12 = .ok vA := fp12Word_of fun k hk => by
    rw [hs k hk]; revert k; decide
  simp [exec, execLdFp12, loadFrom_eq, h, commitReg, regAfter, Except.map, hb, Config.granules]

theorem test_ldFp12_bounds :
    trapAfter (exec (.ldFp12 1 501) State.reset) = some (5, 501) := by decide +kernel

theorem test_stFp :
    wordsAfter (exec (.stFp 3 1) (putMem [(2, 8), (4, 9)] (put [(1, .fp (n 5))]))) [2, 3, 4] = some [8, 5, 9] := by decide +kernel

theorem test_stFp_bytes :
    (match exec (.stFp 3 1) (put [(1, .fp (n 5))]) with
      | .next t => (List.range 32).map fun k => readByte t (96 + k)
      | _ => []) = List.replicate 31 0 ++ [5] := by decide +kernel

theorem test_stFp2 :
    wordsAfter (exec (.stFp2 3 7) (put [(7, .fp2 (e2 9 1))])) [3, 4] = some [9, 1] := by decide +kernel

theorem test_stFp2_bounds :
    trapAfter (exec (.stFp2 511 7) (put [(7, .fp2 (e2 9 1))])) = some (5, 511) := by decide +kernel

theorem test_stFp6 (s : State) (hs : s.reg 7 = .fp6 (e6 0 0 1 0 0 2)) (hb : s.run = .busy) :
    wordsAfter (exec (.stFp6 506 7) s) [505, 506, 508, 511] = some [word s 505, 0, 1, 2] := by
  have hv : (e6 0 0 1 0 0 2).coeffs.map Fp.val = [0, 0, 1, 0, 0, 2] := by decide
  have hw : storeTo s 506 7 asFp6 6 (fun a => a.coeffs.map Fp.val) = .ok (setWords s.dmem 506 [0, 0, 1, 0, 0, 2]) := by
    rw [storeTo_eq, src_ok (a := (e6 0 0 1 0 0 2)) (by rw [hs]; decide) (by rw [hs]; rfl)]
    exact congrArg (fun l => Except.ok (setWords s.dmem 506 l)) hv
  change wordsAfter (commitDmem (storeTo s 506 7 asFp6 6 _) s) _ = _
  rw [hw]
  simp [wordsAfter, commitDmem, word_setWords, hb]

theorem test_stFp12 (s : State) (hs : s.reg 5 = .fp12 vA) (hb : s.run = .busy) :
    wordsAfter (exec (.stFp12 6 5) s) [5, 6, 7, 12, 17, 18] = some [word s 5, 1, 2, 7, 12, word s 18] := by
  have hv : vA.coeffs.map Fp.val = [1, 2, 3, 4, 5, 6, 7, 8, 9, 10, 11, 12] := by decide
  have hw : storeTo s 6 5 asFp12 12 (fun a => a.coeffs.map Fp.val) = .ok (setWords s.dmem 6 [1, 2, 3, 4, 5, 6, 7, 8, 9, 10, 11, 12]) := by
    rw [storeTo_eq, src_ok (a := vA) (by rw [hs]; decide) (by rw [hs]; rfl)]
    exact congrArg (fun l => Except.ok (setWords s.dmem 6 l)) hv
  change wordsAfter (commitDmem (storeTo s 6 5 asFp12 12 _) s) _ = _
  rw [hw]
  simp [wordsAfter, commitDmem, word_setWords, hb]

theorem test_ldg1 :
    regAfter (exec (.ldg1 1 0) (putMem [(0, 1), (1, 2)] State.reset)) 1 = some (.g1 g1a) := by decide +kernel

theorem test_ldg1_invalid :
    trapAfter (exec (.ldg1 1 0) (putMem [(0, 1), (1, 3)] State.reset)) = some (7, 0) := by decide +kernel

/-- The wire words of the G2 generator (vector V-L5). -/
def wireQ : List (Nat × Nat) := [(2, 11559732032986387107991004021392285783925812861821192530917403151452391805634),
  (3, 10857046999023057135944570762232829481370756359578518086990519993285655852781),
  (4, 4082367875863433681332203403145435568316851327593401208105741076214120093531),
  (5, 8495653923123431417604973247489272438418190587263600148770280649306958101930)]

theorem test_ldg2 :
    regAfter (exec (.ldg2 2 2) (putMem wireQ State.reset)) 2 = some (.g2 g2a) := by decide +kernel

theorem test_ldg2_bounds :
    trapAfter (exec (.ldg2 2 509) State.reset) = some (5, 509) := by decide +kernel

theorem test_stg1 :
    wordsAfter (exec (.stg1 30 13) (put [(13, .g1 g1a)])) [30, 31] = some [1, 2] := by decide +kernel

theorem test_stg1_jacobian :
    trapAfter (exec (.stg1 30 13) (put [(13, .g1j g1a)])) = some (4, 13) := by decide +kernel

theorem test_stg2 :
    wordsAfter (exec (.stg2 2 1) (put [(1, .g2 g2a)])) [2, 3, 4, 5] = some (wireQ.map Prod.snd) := by decide +kernel

theorem test_ldsc :
    regAfter (exec (.ldsc 1 0) (putMem [(0, 2 ^ 256 - 1)] State.reset)) 1 = some (.sc (BitVec.allOnes 256)) := by decide +kernel

theorem test_stsc :
    wordsAfter (exec (.stsc 511 1) (put [(1, .sc (BitVec.allOnes 256))])) [511] = some [2 ^ 256 - 1] := by decide +kernel

/-! ## Fp (42_fp.md, V-FP-1) -/

theorem test_zeroFp :
    regAfter (exec (.zeroFp 3) (put [(3, .sc 4)])) 3 =
      some (.fp (n 0)) := by decide +kernel

theorem test_oneFp :
    regAfter (exec (.oneFp 3) (put [])) 3 =
      some (.fp (n 1)) := by decide +kernel

theorem test_addFp :
    regAfter (exec (.addFp 3 1 2) (put [(1, .fp (n (P - 1))), (2, .fp (n 2))])) 3 =
      some (.fp (n 1)) := by decide +kernel

theorem test_subFp :
    regAfter (exec (.subFp 3 1 2) (put [(1, .fp (n 3)), (2, .fp (n 5))])) 3 =
      some (.fp (n (P - 2))) := by decide +kernel

theorem test_negFp :
    regAfter (exec (.negFp 3 1) (put [(1, .fp (n 0))])) 3 =
      some (.fp (n 0)) := by decide +kernel

theorem test_mulFp :
    regAfter (exec (.mulFp 3 1 2) (put [(1, .fp (n (P - 1))), (2, .fp (n (P - 1)))])) 3 =
      some (.fp (n 1)) := by decide +kernel

theorem test_sqrFp :
    regAfter (exec (.sqrFp 3 1) (put [(1, .fp (n (P - 2)))])) 3 =
      some (.fp (n 4)) := by decide +kernel

theorem test_invFp :
    regAfter (exec (.invFp 3 1) (put [(1, .fp (n 7))])) 3 =
      some (.fp (n 12507567355336728698426517568718442907826463518455899235822307368368700690619)) := by decide +kernel

theorem test_invFp_zero :
    trapAfter (exec (.invFp 3 1) (put [(1, .fp (n 0))])) = some (8, 1) := by decide +kernel

theorem test_powFp :
    regAfter (exec (.powFp 3 1 2) (put [(1, .fp (n 7)), (2, .sc (BitVec.ofNat 256 (P - 1)))])) 3 =
      some (.fp (n 1)) := by decide +kernel

theorem test_powFp_zero :
    regAfter (exec (.powFp 3 1 2) (put [(1, .fp (n 0)), (2, .sc 0)])) 3 =
      some (.fp (n 1)) := by decide +kernel

theorem test_frobFp :
    regAfter (exec (.frobFp 3 1 3) (put [(1, .fp (n 5))])) 3 =
      some (.fp (n 5)) := by decide +kernel

theorem test_iszeroFp :
    flagAfter (exec (.iszeroFp 1) (put [(1, .fp (n (P - 1)))])) = some false := by decide +kernel

theorem test_isoneFp :
    flagAfter (exec (.isoneFp 1) (put [(1, .fp (n 1))])) = some true := by decide +kernel

theorem test_coefFp :
    regAfter (exec (.coefFp 3 1 0) (put [(1, .fp (n 9))])) 3 =
      some (.fp (n 9)) := by decide +kernel

/-! ## Fp2 (43_fp2.md) -/

theorem test_zeroFp2 :
    regAfter (exec (.zeroFp2 3) (put [])) 3 =
      some (.fp2 (e2 0 0)) := by decide +kernel

theorem test_oneFp2 :
    regAfter (exec (.oneFp2 3) (put [])) 3 =
      some (.fp2 (e2 1 0)) := by decide +kernel

theorem test_addFp2 :
    regAfter (exec (.addFp2 3 1 2) (put [(1, .fp2 (e2 (P - 1) 2)), (2, .fp2 (e2 3 5))])) 3 =
      some (.fp2 (e2 2 7)) := by decide +kernel

theorem test_subFp2 :
    regAfter (exec (.subFp2 3 1 2) (put [(1, .fp2 (e2 1 2)), (2, .fp2 (e2 3 5))])) 3 =
      some (.fp2 (e2 (P - 2) (P - 3))) := by decide +kernel

theorem test_negFp2 :
    regAfter (exec (.negFp2 3 1) (put [(1, .fp2 (e2 1 2))])) 3 =
      some (.fp2 (e2 (P - 1) (P - 2))) := by decide +kernel

theorem test_mulFp2 :
    regAfter (exec (.mulFp2 3 1 2) (put [(1, .fp2 (e2 1 2)), (2, .fp2 (e2 3 4))])) 3 =
      some (.fp2 (e2 (P - 5) 10)) := by decide +kernel

theorem test_sqrFp2 :
    regAfter (exec (.sqrFp2 3 1) (put [(1, .fp2 (e2 1 2))])) 3 =
      some (.fp2 (e2 (P - 3) 4)) := by decide +kernel

theorem test_invFp2 :
    regAfter (exec (.invFp2 3 1) (put [(1, .fp2 (e2 0 1))])) 3 =
      some (.fp2 (e2 0 (P - 1))) := by decide +kernel

theorem test_powFp2 :
    regAfter (exec (.powFp2 3 1 2) (put [(1, .fp2 (e2 1 2)), (2, .sc (BitVec.ofNat 256 P))])) 3 =
      some (.fp2 (e2 1 (P - 2))) := by decide +kernel

theorem test_conjFp2 :
    regAfter (exec (.conjFp2 3 1) (put [(1, .fp2 (e2 1 2))])) 3 =
      some (.fp2 (e2 1 (P - 2))) := by decide +kernel

theorem test_mulxi :
    regAfter (exec (.mulxi 3 1) (put [(1, .fp2 (e2 0 1))])) 3 =
      some (.fp2 (e2 (P - 1) 9)) := by decide +kernel

theorem test_frobFp2 :
    regAfter (exec (.frobFp2 3 1 1) (put [(1, .fp2 (e2 1 2))])) 3 = some (.fp2 (e2 1 (P - 2))) ∧
    regAfter (exec (.frobFp2 3 1 2) (put [(1, .fp2 (e2 1 2))])) 3 = some (.fp2 (e2 1 2)) := by decide +kernel

theorem test_iszeroFp2 :
    flagAfter (exec (.iszeroFp2 1) (put [(1, .fp2 (e2 0 1))])) = some false := by decide +kernel

theorem test_isoneFp2 :
    flagAfter (exec (.isoneFp2 1) (put [(1, .fp2 (e2 0 1))])) = some false := by decide +kernel

theorem test_embFp2 :
    regAfter (exec (.embFp2 3 1) (put [(1, .fp (n 7))])) 3 =
      some (.fp2 (e2 7 0)) := by decide +kernel

theorem test_mkfp2 :
    regAfter (exec (.mkfp2 3 1 2) (put [(1, .fp (n 9)), (2, .fp (n 1))])) 3 =
      some (.fp2 Fp2.xi) := by decide +kernel

theorem test_coefFp2 :
    regAfter (exec (.coefFp2 3 1 1) (put [(1, .fp2 (e2 9 1))])) 3 =
      some (.fp (n 1)) := by decide +kernel

/-! ## Fp6 (44_fp6.md) -/

theorem test_zeroFp6 :
    regAfter (exec (.zeroFp6 3) (put [])) 3 =
      some (.fp6 (e6 0 0 0 0 0 0)) := by decide +kernel

theorem test_oneFp6 :
    regAfter (exec (.oneFp6 3) (put [])) 3 =
      some (.fp6 (e6 1 0 0 0 0 0)) := by decide +kernel

theorem test_addFp6 :
    regAfter (exec (.addFp6 3 1 2) (put [(1, .fp6 (e6 1 2 3 4 5 6)), (2, .fp6 (e6 7 8 9 10 11 12))])) 3 =
      some (.fp6 (e6 8 10 12 14 16 18)) := by decide +kernel

theorem test_subFp6 :
    regAfter (exec (.subFp6 3 1 2) (put [(1, .fp6 (e6 1 2 3 4 5 6)), (2, .fp6 (e6 7 8 9 10 11 12))])) 3 =
      some (.fp6 (e6 (P - 6) (P - 6) (P - 6) (P - 6) (P - 6) (P - 6))) := by decide +kernel

theorem test_negFp6 :
    regAfter (exec (.negFp6 3 1) (put [(1, .fp6 Fp6.one)])) 3 =
      some (.fp6 (e6 (P - 1) 0 0 0 0 0)) := by decide +kernel

theorem test_mulFp6 :
    regAfter (exec (.mulFp6 3 1 2) (put [(1, .fp6 (e6 1 2 3 4 5 6)), (2, .fp6 (e6 7 8 9 10 11 12))])) 3 =
      some (.fp6 (e6 (P - 463) 1648 (P - 301) 1197 (P - 39) 182)) := by decide +kernel

theorem test_sqrFp6 :
    regAfter (exec (.sqrFp6 3 1) (put [(1, .fp6 (e6 1 2 3 4 5 6))])) 3 =
      some (.fp6 (e6 (P - 241) 670 (P - 169) 549 (P - 21) 56)) := by decide +kernel

theorem test_invFp6 :
    regAfter (exec (.invFp6 3 1) (put [(1, .fp6 (e6 0 0 1 0 0 0))])) 3 =
      some (.fp6 (e6 0 0 0 0
        21087453498479301738505683583845423561061080261299122796980902361914303298513
        14681138511599513868579906292550611339979233093309515871315818100066920017952)) := by decide +kernel

theorem test_powFp6 :
    regAfter (exec (.powFp6 3 1 2) (put [(1, .fp6 (e6 0 0 1 0 0 0)), (2, .sc 6)])) 3 =
      some (.fp6 (e6 80 18 0 0 0 0)) := by decide +kernel

theorem test_frobFp6 :
    regAfter (exec (.frobFp6 3 1 1) (put [(1, .fp6 (e6 1 2 3 4 5 6))])) 3 =
      some (.fp6 (e6 1 (P - 2)
        18403825810980266942818486922527826999298808716316102853382469444191903103267
        10285678850015582725602772979496857661220446766353913946092242777037565658567
        1206641321953283270833714125376416931468304999383738418085045759374114446372
        18532588176558358261636576921062066108174276162474095808292927126658498601373)) := by decide +kernel

theorem test_iszeroFp6 :
    flagAfter (exec (.iszeroFp6 1) (put [(1, .fp6 (e6 0 0 0 0 0 1))])) = some false := by decide +kernel

theorem test_isoneFp6 :
    flagAfter (exec (.isoneFp6 1) (put [(1, .fp6 (e6 1 0 0 0 0 0))])) = some true := by decide +kernel

theorem test_embFp6 :
    regAfter (exec (.embFp6 3 1) (put [(1, .fp2 Fp2.xi)])) 3 =
      some (.fp6 (e6 9 1 0 0 0 0)) := by decide +kernel

theorem test_embFp6_type :
    trapAfter (exec (.embFp6 3 1) (put [(1, .fp6 Fp6.one)])) = some (4, 1) := by decide +kernel

theorem test_coefFp6 :
    regAfter (exec (.coefFp6 3 1 3) (put [(1, .fp6 (e6 1 2 3 4 5 6))])) 3 =
      some (.fp (n 4)) := by decide +kernel

/-! ## Fp12 (45_fp12.md) -/

theorem test_zeroFp12 :
    regAfter (exec (.zeroFp12 3) (put [])) 3 =
      some (.fp12 (e12 0 0 0 0 0 0 0 0 0 0 0 0)) := by decide +kernel

theorem test_oneFp12 :
    regAfter (exec (.oneFp12 3) (put [])) 3 =
      some (.fp12 (e12 1 0 0 0 0 0 0 0 0 0 0 0)) := by decide +kernel

theorem test_addFp12 :
    regAfter (exec (.addFp12 3 1 2) (put [(1, .fp12 vA), (2, .fp12 vB)])) 3 =
      some (.fp12 (e12 14 16 18 20 22 24 26 28 30 32 34 36)) := by decide +kernel

theorem test_subFp12 :
    regAfter (exec (.subFp12 3 1 2) (put [(1, .fp12 vA), (2, .fp12 vB)])) 3 =
      some (.fp12 (e12 (P - 12) (P - 12) (P - 12) (P - 12) (P - 12) (P - 12) (P - 12) (P - 12) (P - 12)
        (P - 12) (P - 12) (P - 12))) := by decide +kernel

theorem test_negFp12 :
    regAfter (exec (.negFp12 3 1) (put [(1, .fp12 Fp12.one)])) 3 =
      some (.fp12 (e12 (P - 1) 0 0 0 0 0 0 0 0 0 0 0)) := by decide +kernel

theorem test_mulFp12 :
    regAfter (exec (.mulFp12 3 1 2) (put [(1, .fp12 vA), (2, .fp12 vB)])) 3 =
      some (.fp12 (e12 (P - 2730) 13405 (P - 1994) 10531 (P - 970) 5825 (P - 2102) 9944 (P - 1274) 6570 (P - 150) 1300)) := by decide +kernel

theorem test_sqrFp12 :
    regAfter (exec (.sqrFp12 3 1) (put [(1, .fp12 vA)])) 3 =
      some (.fp12 (e12 (P - 1278) 5329 (P - 998) 4543 (P - 526) 2693 (P - 926) 3296 (P - 602) 2394 (P - 78) 364)) := by decide +kernel

theorem test_invFp12 :
    regAfter (exec (.invFp12 3 1) (put [(1, .fp12 (e12 0 0 0 0 0 0 1 0 0 0 0 0))])) 3 =
      some (.fp12 (e12 0 0 0 0 0 0 0 0 0 0
        21087453498479301738505683583845423561061080261299122796980902361914303298513
        14681138511599513868579906292550611339979233093309515871315818100066920017952)) := by decide +kernel

theorem test_powFp12 :
    regAfter (exec (.powFp12 3 1 2) (put [(1, .fp12 (e12 0 0 0 0 0 0 1 0 0 0 0 0)), (2, .sc 6)])) 3 =
      some (.fp12 (e12 9 1 0 0 0 0 0 0 0 0 0 0)) := by decide +kernel

theorem test_conjFp12 :
    regAfter (exec (.conjFp12 3 1) (put [(1, .fp12 vA)])) 3 =
      some (.fp12 (e12 1 2 3 4 5 6 (P - 7) (P - 8) (P - 9) (P - 10) (P - 11) (P - 12))) := by decide +kernel

theorem test_frobFp12 :
    regAfter (exec (.frobFp12 3 1 1) (put [(1, .fp12 vA)])) 3 =
      some (.fp12 (e12 1 (P - 2)
        18403825810980266942818486922527826999298808716316102853382469444191903103267
        10285678850015582725602772979496857661220446766353913946092242777037565658567
        1206641321953283270833714125376416931468304999383738418085045759374114446372
        18532588176558358261636576921062066108174276162474095808292927126658498601373
        15285475670255014489229669040738642330633146371560861622129435166663266298424
        4503326591755535150059358256710294674953135681215152008960092180291386250406
        16676038575187844943310927664569462212246367451594032388461421128719214025850
        3336942089258638962701677172923213016266019736652133098342307295433337108087
        21349673280550689267642407988536924884743314711499493762643067160037446099821
        19033225495368496540456934014739061511647005313793238349017974916481889468720)) := by decide +kernel

theorem test_iszeroFp12 :
    flagAfter (exec (.iszeroFp12 1) (put [(1, .fp12 Fp12.zero)])) = some true := by decide +kernel

theorem test_isoneFp12 :
    flagAfter (exec (.isoneFp12 1) (put [(1, .fp12 vA)])) = some false := by decide +kernel

theorem test_embFp12 :
    regAfter (exec (.embFp12 3 1) (put [(1, .fp (n 2))])) 3 =
      some (.fp12 (e12 2 0 0 0 0 0 0 0 0 0 0 0)) := by decide +kernel

theorem test_coefFp12 :
    regAfter (exec (.coefFp12 3 1 11) (put [(1, .fp12 vA)])) 3 =
      some (.fp (n 12)) := by decide +kernel

/-! ## G1 and G2 (46_g1.md, 47_g2.md) -/

theorem test_paddG1 :
    regAfter (exec (.paddG1 3 1 2) (put [(1, .g1 g1a), (2, .g1j g1b)])) 3 =
      some (.g1j g1c) := by decide +kernel

theorem test_paddG1_opposite :
    regAfter (exec (.paddG1 3 1 2) (put [(1, .g1 g1a), (2, .g1 (.aff (n 1) (n (P - 2))))])) 3 =
      some (.g1 .inf) := by decide +kernel

theorem test_pdblG1 :
    regAfter (exec (.pdblG1 3 1) (put [(1, .g1 g1a)])) 3 =
      some (.g1 g1b) := by decide +kernel

theorem test_pnegG1 :
    regAfter (exec (.pnegG1 3 1) (put [(1, .g1j g1a)])) 3 =
      some (.g1j (.aff (n 1) (n (P - 2)))) := by decide +kernel

theorem test_pmulG1 :
    regAfter (exec (.pmulG1 3 1 2) (put [(1, .g1 g1a), (2, .sc 5)])) 3 =
      some (.g1 (.aff
        (n 10744596414106452074759370245733544594153395043370666422502510773307029471145)
        (n 848677436511517736191562425154572367705380862894644942948681172815252343932))) := by decide +kernel

theorem test_pmulG1_zero :
    regAfter (exec (.pmulG1 3 1 2) (put [(1, .g1j g1a), (2, .sc 0)])) 3 =
      some (.g1j .inf) := by decide +kernel

theorem test_ptojG1 :
    regAfter (exec (.ptojG1 3 1) (put [(1, .g1 g1a)])) 3 =
      some (.g1j g1a) := by decide +kernel

theorem test_ptoaG1 :
    regAfter (exec (.ptoaG1 3 1) (put [(1, .g1j g1c)])) 3 =
      some (.g1 g1c) := by decide +kernel

theorem test_isinfG1 :
    flagAfter (exec (.isinfG1 1) (put [(1, .g1j .inf)])) = some true := by decide +kernel

theorem test_pinfG1 :
    regAfter (exec (.pinfG1 3) (put [])) 3 =
      some (.g1 .inf) := by decide +kernel

theorem test_paddG2 :
    regAfter (exec (.paddG2 3 1 2) (put [(1, .g2j g2a), (2, .g2 g2b)])) 3 =
      some (.g2j g2c) := by decide +kernel

theorem test_pdblG2 :
    regAfter (exec (.pdblG2 3 1) (put [(1, .g2 g2a)])) 3 =
      some (.g2 g2b) := by decide +kernel

theorem test_pnegG2 :
    regAfter (exec (.pnegG2 3 1) (put [(1, .g2 g2a)])) 3 =
      some (.g2 (.aff
        (e2 10857046999023057135944570762232829481370756359578518086990519993285655852781
          11559732032986387107991004021392285783925812861821192530917403151452391805634)
        (e2 13392588948715843804641432497768002650278120570034223513918757245338268106653
          17805874995975841540914202342111839520379459829704422454583296818431106115052))) := by decide +kernel

theorem test_pmulG2 :
    regAfter (exec (.pmulG2 3 1 2) (put [(1, .g2 g2a), (2, .sc 3)])) 3 =
      some (.g2 g2c) := by decide +kernel

theorem test_ptojG2 :
    regAfter (exec (.ptojG2 3 1) (put [(1, .g2 g2a)])) 3 =
      some (.g2j g2a) := by decide +kernel

theorem test_ptoaG2 :
    regAfter (exec (.ptoaG2 3 1) (put [(1, .g2j g2b)])) 3 =
      some (.g2 g2b) := by decide +kernel

theorem test_isinfG2 :
    flagAfter (exec (.isinfG2 1) (put [(1, .g2 g2a)])) = some false := by decide +kernel

theorem test_pinfG2 :
    regAfter (exec (.pinfG2 3) (put [])) 3 =
      some (.g2 .inf) := by decide +kernel

/-! ## The Miller unit and the final exponentiation (48_pairing.md, 49_final_exp.md) -/

/-- The state of the example of 48_pairing.md R428: x2 = Q, x1 = G1, after MLINIT x2, x1. -/
def afterInit : State := (put [(1, .g1 g1a), (2, .g2 g2a)]).setMl (millerInit g2a g1a)

theorem test_mlinit :
    mlAfter (exec (.mlinit 2 1) (put [(1, .g1 g1a), (2, .g2 g2a)])) =
      some { st := .loop, i := 63, f := Fp12.one, t := g2a, q := g2a, p := g1a, l := Fp12.one } := by decide +kernel

theorem test_mlinit_inf :
    (mlAfter (exec (.mlinit 2 1) (put [(1, .g1j .inf), (2, .g2 g2a)]))).map (fun u => u.st) = some .done := by decide +kernel

/-- The first step processes bit 63, which is set: T = [3]Q (48_pairing.md R428). -/
theorem test_mlstep :
    (mlAfter (exec .mlstep afterInit)).map (fun u => (u.st, u.i, u.t)) = some (.loop, 62, g2c) := by decide +kernel

theorem test_mlstep_done :
    trapAfter (exec .mlstep (State.reset.setMl { Miller.reset with st := .done })) = some (9, 4) := by decide +kernel

/-- The last line value of that step (48_pairing.md R433). -/
theorem test_mlstep_line :
    (mlAfter (exec .mlstep afterInit)).map (fun u => (u.l.coeffs.map fun c => decide (c = Fp.zero), coeffAt u.l.coeffs 0)) =
      some ([false, true, true, true, true, true, false, false, false, false, true, true], n (P - 2)) := by decide +kernel

theorem test_mlrdf :
    regAfter (exec (.mlrdf 3) afterInit) 3 = some (.fp12 Fp12.one) := by decide +kernel

theorem test_mlrdf_idle :
    trapAfter (exec (.mlrdf 3) State.reset) = some (9, 0) := by decide +kernel

theorem test_mlrdt :
    regAfter (exec (.mlrdt 3) afterInit) 3 = some (.g2 g2a) := by decide +kernel

theorem test_mlrdl :
    regAfter (exec (.mlrdl 3) afterInit) 3 = some (.fp12 Fp12.one) := by decide +kernel

theorem test_mldone :
    flagAfter (exec .mldone afterInit) = some false ∧
    flagAfter (exec .mldone (State.reset.setMl { Miller.reset with st := .done })) = some true := by decide +kernel

theorem test_miller_inf :
    regAfter (exec (.miller 3 2 1) (put [(1, .g1 g1a), (2, .g2 .inf)])) 3 = some (.fp12 Fp12.one) := by decide +kernel

/-- Vector V-P1: the Miller loop of the two generators. -/
theorem test_miller :
    regAfter (exec (.miller 3 2 1) (put [(1, .g1 g1a), (2, .g2 g2a)])) 3 = some (.fp12 (e12
      16054200282781274880414640088073412178939019258813265677683951208819758301686
      13318465229616396970310691999734482395732862176182955368351430279405267832319
      7117095122117886516717029023546589061174774379469219374192551020598702880258
      8997252213982941352933225127960773904356644634177539677293922163295331590139
      15160355404379389740452246592528256337482544066650735819515851742522108565021
      1940318859513246594868507581320213335118051504311979147283455771558379587304
      14316318415428850037851921006677818380883113116972882211351444711481724563657
      12927842900909069600792718488994817756711155612584634280228200334746599558018
      13864386530718764706099097472107094805632733846403257155084201339681812841788
      14297818328170857922251245587983993460548623349261763321433623532918098592225
      4550672840600459547364669950196832271358842121276168800007885456410755046310
      11590583322600640567335815633425281062249022697905667697550659018442991565079)) := by decide +kernel

theorem test_fexp_zero :
    trapAfter (exec (.fexp 3 1) (put [(1, .fp12 Fp12.zero)])) = some (8, 1) := by decide +kernel

/-- The exponent of 49_final_exp.md R460 by its factors: E = (P⁶ − 1)(P² + 1)H with H·r = P⁴ − P² + 1, E·r = P¹² − 1. -/
theorem test_finalExponent :
    finalExponent = (P ^ 6 - 1) * (P ^ 2 + 1) * ((P ^ 4 - P ^ 2 + 1) / groupOrder) ∧
    (P ^ 4 - P ^ 2 + 1) % groupOrder = 0 ∧ finalExponent * groupOrder = P ^ 12 - 1 := by decide +kernel

/-- 43_fp2.md R266, 45_fp12.md R336. -/
theorem test_frobenius_constants :
    gamma1 2 = e2 21575463638280843010398324269430826099269044274347216827212613867836435027261
      10307601595873709700152284273816112264069230130616436755625194854815875713954 ∧
    gamma2 4 = e2 2203960485148121921418603742825762020974279258880205651966 0 ∧
    twistB = e2 19485874751759354771024239261021720505790618469301721065564631296452457478373
      266929791119991161246907387137283842545076965332900288569378510910307636690 := by decide +kernel

/-! ## Witnesses: states and operands that meet the statements' hypotheses, clause by clause -/

/-- A state with registers of every tag, among them zeros, O, opposite points and the largest scalar. -/
def full : State := put [(1, .fp (n 5)), (2, .fp (n (P - 1))), (3, .fp (n 0)),
  (4, .fp2 (e2 9 1)), (5, .fp2 (e2 0 (P - 1))), (6, .fp2 (e2 0 0)),
  (7, .fp6 (e6 0 0 1 0 0 (P - 1))), (8, .fp6 (e6 0 0 0 0 0 0)),
  (9, .fp12 vA), (10, .fp12 vB), (11, .fp12 Fp12.zero),
  (12, .sc 0), (13, .sc (BitVec.allOnes 256)),
  (14, .sc 21888242871839275222246405745257275088548364400416034343698204186575808495617#256),
  (16, .g1 g1a), (17, .g1j g1b), (18, .g1 (.aff (n 1) (n (P - 2)))), (19, .g1j .inf),
  (20, .g2 g2a), (21, .g2j g2b), (22, .g2j (g2Neg g2a)), (23, .g2 .inf)]

/-- The engine about to execute a word at the last address of IMEM. -/
def running (w : Nat) : State := { State.reset with pc := 511 }.withFetchWord 32 w

theorem witness_DecodeOfEncode : (Instr.coefFp12 31 31 11).wf = true ∧ (Instr.frobFp12 0 31 511).wf = true := by decide

theorem witness_EncodeOfDecode : decode 0xBBFFC00B#32 = .ok (.coefFp12 31 31 11) := by decide

theorem witness_IllegalWords :
    IllegalWord 0#32 ∧ IllegalWord 0x9C088000#32 ∧ IllegalWord 0x04080000#32 ∧ IllegalWord 0xB920C002#32 ∧
    ¬ IllegalWord 0xB920C001#32 ∧ ¬ IllegalWord 0xDDF80000#32 := by
  refine ⟨?_, ?_, ?_, ?_, ?_, ?_⟩ <;>
    simp [IllegalWord, formatOf, ftAdmitted, Format.unusedZero, coefCount]

theorem witness_StepRunsDecoded :
    (running 0x08000000).run = .busy ∧ (running 0x08000000).pc.toNat < 512 ∧
    decode (imemWord (running 0x08000000) (running 0x08000000).pc.toNat) = .ok .nop ∧
    (running 0x08000000).hostQ = [] ∧
    { running 0x08000000 with hostQ := [.pass, .read 0] }.hostQ = .pass :: [.read 0] := by decide

theorem witness_EngineCycleTraps :
    ({ State.reset with run := .busy, pc := 512 } : State).hostQ = [] ∧
    512 ≤ ({ State.reset with run := .busy, pc := 512 } : State).pc.toNat ∧
    512 ≤ ({ State.reset with run := .busy, pc := 1023 } : State).pc.toNat ∧
    (running 0xFC000000).run = .busy ∧ (running 0xFC000000).pc.toNat < 512 ∧
    decode (imemWord (running 0xFC000000) (running 0xFC000000).pc.toNat) = .illegal .opcode ∧
    State.reset.run ≠ .busy := by decide

theorem witness_FrameRegistersFlagMiller :
    (∃ t, exec (.addFp 3 1 2) full = .next t) ∧ (accessOf (.addFp 3 1 2)).dest ≠ some 4 ∧
    (accessOf (.addFp 3 1 2)).flag = false ∧ (accessOf (.addFp 3 1 2)).miller = false :=
  ⟨⟨_, rfl⟩, by decide, rfl, rfl⟩

theorem witness_FrameMemoryAndHost :
    (∃ t, exec (.stFp2 510 4) full = .next t) ∧ (accessOf (.stFp2 510 4)).stored = some (510, 2) ∧
    ¬ (32 * (510 : Imm9).toNat ≤ 16319 ∧ 16319 < 32 * ((510 : Imm9).toNat + 2)) ∧
    (∃ t, exec (.stFp2 509 4) full = .next t) ∧
    ¬ (32 * (509 : Imm9).toNat ≤ 16352 ∧ 16352 < 32 * ((509 : Imm9).toNat + 2)) ∧
    (∃ t, exec (.mulFp 3 1 2) full = .next t) ∧ (accessOf (.mulFp 3 1 2)).stored = none :=
  ⟨⟨_, rfl⟩, rfl, by decide, ⟨_, rfl⟩, by decide, ⟨_, rfl⟩, rfl⟩

theorem witness_FrameStatusAndPc :
    (∃ t, exec (.bf 5) full = .next t) ∧ (∃ t, exec .halt full = .next t) ∧ (∃ t, exec (.mov 1 0) full = .next t) :=
  ⟨⟨_, rfl⟩, ⟨_, rfl⟩, ⟨_, rfl⟩⟩

theorem witness_OperandChecks :
    (accessOf (.powFp 3 1 2)).sources = [] ++ (1, [.fp]) :: [(2, [.sc])] ∧
    (accessOf (.powFp 3 1 2)).sources = [(1, [.fp])] ++ (2, [.sc]) :: [] ∧
    (put [(2, .sc 1)]).reg 1 = .empty ∧
    (put [(1, .sc 1)]).reg 1 ≠ .empty ∧ (put [(1, .sc 1)]).reg 2 = .empty ∧
    (full.reg 1).tag ∈ [Tag.fp] ∧ full.reg 2 ≠ .empty ∧ (full.reg 2).tag ∉ [Tag.sc] ∧
    (put [(1, .sc 1), (2, .fp (n 1))]).reg 1 ≠ .empty ∧ (put [(1, .sc 1), (2, .fp (n 1))]).reg 2 ≠ .empty ∧
    ((put [(1, .sc 1), (2, .fp (n 1))]).reg 1).tag ∉ [Tag.fp] := by decide +kernel

theorem witness_StepKeepsMemoriesCanonical :
    State.memoriesCanonical { running 0x08000000 with dmem := [(0, 1), (16383, 2)] } ∧
    ∃ t, step { running 0x08000000 with dmem := [(0, 1), (16383, 2)] } = .next t :=
  ⟨by unfold State.memoriesCanonical; decide, ⟨_, rfl⟩⟩

theorem witness_StepKeepsPointsOnCurve :
    (put [(1, .g1 g1a), (2, .g2j g2a)]).pointsOnCurve ∧ ∃ t, step (put [(1, .g1 g1a), (2, .g2j g2a)]) = .next t :=
  ⟨by unfold State.pointsOnCurve; decide +kernel, ⟨_, rfl⟩⟩

theorem witness_StepKeepsMillerAndStatus :
    (∃ t, step (State.reset.setMl (millerInit g2a g1a)) = .next t) ∧
    (State.reset.setMl (millerInit g2a g1a)).ml.inProgressOk ∧
    (State.reset.setMl { millerInit g2a g1a with st := .frob2, i := 0 }).ml.inProgressOk ∧
    (State.reset.faulted 10 3).statusConsistent ∧ (running 0).statusConsistent := by
  refine ⟨⟨_, rfl⟩, ?_, ?_, ?_, ?_⟩ <;> simp only [Miller.inProgressOk, State.statusConsistent] <;> decide

theorem witness_ResetValues :
    { full with hostQ := [.powerOn, .pass] }.hostQ = .powerOn :: [.pass] ∧ (7#32 : Word).getLsbD 1 = true ∧
    { full with hostQ := [.write 0x004 7] }.hostQ = .write 0x004 7 :: [] := by decide

theorem witness_ControlResults : full.reg 1 ≠ .empty ∧ full.reg 23 ≠ .empty := by decide +kernel

theorem witness_EqResult :
    full.reg 1 = .fp (n 5) ∧ full.reg 2 = .fp (n (P - 1)) ∧ full.reg 4 = .fp2 (e2 9 1) ∧
    full.reg 5 = .fp2 (e2 0 (P - 1)) ∧ full.reg 7 = .fp6 (e6 0 0 1 0 0 (P - 1)) ∧ full.reg 8 = .fp6 (e6 0 0 0 0 0 0) ∧
    full.reg 9 = .fp12 vA ∧ full.reg 10 = .fp12 vB ∧ full.reg 12 = .sc 0 ∧ full.reg 13 = .sc (BitVec.allOnes 256) ∧
    full.reg 16 = ofG1 .aff g1a ∧ full.reg 19 = ofG1 .jac .inf ∧ full.reg 20 = ofG2 .aff g2a ∧
    full.reg 21 = ofG2 .jac g2b ∧ (full.reg 16).tag.kind ≠ (full.reg 20).tag.kind ∧ full.reg 16 ≠ .empty ∧
    full.reg 20 ≠ .empty := by decide +kernel

theorem witness_FpRingResults : full.reg 2 = .fp (n (P - 1)) ∧ full.reg 3 = .fp (n 0) := by decide +kernel

theorem witness_Fp2RingResults : full.reg 4 = .fp2 (e2 9 1) ∧ full.reg 5 = .fp2 (e2 0 (P - 1)) := by decide +kernel

theorem witness_Fp6RingResults :
    full.reg 7 = .fp6 (e6 0 0 1 0 0 (P - 1)) ∧ full.reg 8 = .fp6 (e6 0 0 0 0 0 0) := by decide +kernel

theorem witness_Fp12RingResults : full.reg 9 = .fp12 vA ∧ full.reg 10 = .fp12 vB := by decide +kernel

theorem witness_TowerFieldLaws :
    n 7 ≠ Fp.zero ∧ e2 0 1 ≠ Fp2.zero ∧ e6 0 0 0 0 0 1 ≠ Fp6.zero ∧ vA ≠ Fp12.zero := by decide

theorem witness_InverseFpFp2 :
    full.reg 2 = .fp (n (P - 1)) ∧ (n (P - 1)).val ≠ 0 ∧ full.reg 5 = .fp2 (e2 0 (P - 1)) ∧
    ¬ ((e2 0 (P - 1)).c0.val = 0 ∧ (e2 0 (P - 1)).c1.val = 0) := by decide +kernel

theorem witness_InverseFp6Fp12 :
    full.reg 7 = .fp6 (e6 0 0 1 0 0 (P - 1)) ∧ (∃ k < 6, (coeffAt (e6 0 0 1 0 0 (P - 1)).coeffs k).val ≠ 0) ∧
    full.reg 9 = .fp12 vA ∧ (∃ k < 12, (coeffAt vA.coeffs k).val ≠ 0) :=
  ⟨rfl, ⟨5, by decide, by decide⟩, rfl, ⟨11, by decide, by decide⟩⟩

theorem witness_DivByZeroTraps :
    full.reg 3 = .fp (n 0) ∧ (n 0).val = 0 ∧ full.reg 6 = .fp2 (e2 0 0) ∧
    (∀ k < 2, (coeffAt (e2 0 0).coeffs k).val = 0) ∧ full.reg 8 = .fp6 (e6 0 0 0 0 0 0) ∧
    (∀ k < 6, (coeffAt (e6 0 0 0 0 0 0).coeffs k).val = 0) ∧ full.reg 11 = .fp12 Fp12.zero ∧
    (∀ k < 12, (coeffAt Fp12.zero.coeffs k).val = 0) := by decide +kernel

theorem witness_PowResults :
    full.reg 12 = .sc 0 ∧ full.reg 13 = .sc (BitVec.allOnes 256) ∧ full.reg 3 = .fp (n 0) ∧
    full.reg 4 = .fp2 (e2 9 1) ∧ full.reg 8 = .fp6 (e6 0 0 0 0 0 0) ∧ full.reg 9 = .fp12 vA := by decide +kernel

theorem witness_FrobeniusFpFp2 : full.reg 1 = .fp (n 5) ∧ full.reg 4 = .fp2 (e2 9 1) := by decide +kernel

theorem witness_FrobeniusFp6Fp12 :
    full.reg 7 = .fp6 (e6 0 0 1 0 0 (P - 1)) ∧ full.reg 9 = .fp12 vA := by decide +kernel

theorem witness_EmbedAndProject :
    full.reg 1 = .fp (n 5) ∧ full.reg 2 = .fp (n (P - 1)) ∧ full.reg 4 = .fp2 (e2 9 1) ∧ (1 : Imm9).toNat = 1 ∧
    full.reg 7 = .fp6 (e6 0 0 1 0 0 (P - 1)) ∧ (5 : Imm9).toNat = 2 * 2 + 1 ∧ full.reg 9 = .fp12 vA ∧
    (11 : Imm9).toNat = 6 * 1 + 2 * 2 + 1 ∧ (0 : Imm9).toNat = 6 * 0 + 2 * 0 + 0 := by decide +kernel

theorem witness_TestResults :
    full.reg 3 = .fp (n 0) ∧ full.reg 4 = .fp2 (e2 9 1) ∧ full.reg 8 = .fp6 (e6 0 0 0 0 0 0) ∧
    full.reg 9 = .fp12 vA ∧ full.reg 19 = ofG1 .jac .inf ∧ full.reg 20 = ofG2 .aff g2a := by decide +kernel

/-- A sum of two different points, a double, a sum of opposite points and a sum with O. -/
theorem witness_PointAddG1 :
    full.reg 16 = ofG1 .aff g1a ∧ g1OnCurve g1a = true ∧ full.reg 17 = ofG1 .jac g1b ∧ g1OnCurve g1b = true ∧
    full.reg 18 = ofG1 .aff (.aff (n 1) (n (P - 2))) ∧ g1OnCurve (.aff (n 1) (n (P - 2))) = true ∧
    full.reg 19 = ofG1 .jac .inf ∧ g1OnCurve .inf = true := by decide +kernel

theorem witness_PointAddG2 :
    full.reg 20 = ofG2 .aff g2a ∧ g2OnCurve g2a = true ∧ full.reg 21 = ofG2 .jac g2b ∧ g2OnCurve g2b = true ∧
    full.reg 22 = ofG2 .jac (g2Neg g2a) ∧ g2OnCurve (g2Neg g2a) = true ∧
    full.reg 23 = ofG2 .aff .inf ∧ g2OnCurve .inf = true := by decide +kernel

theorem witness_PointUnaryResults :
    full.reg 19 = ofG1 .jac .inf ∧ full.reg 18 = ofG1 .aff (.aff (n 1) (n (P - 2))) ∧ full.reg 23 = ofG2 .aff .inf ∧
    full.reg 22 = ofG2 .jac (g2Neg g2a) ∧ full.reg 16 = .g1 g1a ∧ full.reg 17 = .g1j g1b ∧ full.reg 20 = .g2 g2a ∧
    full.reg 21 = .g2j g2b := by decide +kernel

theorem witness_PointMulResults :
    full.reg 13 = .sc (BitVec.allOnes 256) ∧ full.reg 17 = ofG1 .jac g1b ∧ full.reg 20 = ofG2 .aff g2a := by decide +kernel

theorem witness_GroupLawsG1 : g1OnCurve g1a = true ∧ g1OnCurve g1b = true ∧ g1OnCurve .inf = true := by decide +kernel

theorem witness_GroupLawsG2 : g2OnCurve g2a = true ∧ g2OnCurve g2b = true ∧ g2OnCurve .inf = true := by decide +kernel

/-- The words of a memory with some granules written. -/
theorem word_putWords (g : Nat) (vs : List Nat) (s : State) (h : Nat) (hv : ∀ v ∈ vs, v < 2 ^ 256) :
    word (putWords g vs s) h = if g ≤ h ∧ h < g + vs.length then vs.getD (h - g) 0 else word s h :=
  word_setWords vs s g h hv

/-- Reduced words in the last granules of DMEM. -/
theorem witness_LoadFieldResults :
    (∀ k < 12, word (putWords 500 [0, 1, 2, 3, 4, 5, 6, 7, 8, 9, 10, P - 1] State.reset) (500 + k) < P) ∧
    (500 : Imm9).toNat + 12 ≤ 512 ∧ (506 : Imm9).toNat + 6 ≤ 512 ∧ (510 : Imm9).toNat + 2 ≤ 512 := by
  refine ⟨fun k hk => ?_, by decide, by decide, by decide⟩
  rw [word_putWords _ _ _ _ (by decide)]
  interval_cases k <;> decide

/-- O, a point of the curve, and a point off it, each with the words it has in memory. -/
theorem witness_LoadPointResults :
    (∀ p : G1, g1OnCurve p = true ∨ p = .aff (n 1) (n 3) →
      ∀ k < 2, word (putWords 510 (g1Wire p) State.reset) (510 + k) = (g1Wire p).getD k 0) ∧
    (¬ ((n 1).val = 0 ∧ (n 2).val = 0) ∧ (((n 2).val : Int) ^ 2 - ((n 1).val : Int) ^ 3 - 3) % P = 0) ∧
    (((n 3).val : Int) ^ 2 - ((n 1).val : Int) ^ 3 - 3) % P ≠ 0 ∧
    (∀ p : G2, ∀ k < 4, word (putWords 508 (g2Wire p) State.reset) (508 + k) = (g2Wire p).getD k 0) ∧
    onG2 (e2 10857046999023057135944570762232829481370756359578518086990519993285655852781
      11559732032986387107991004021392285783925812861821192530917403151452391805634)
      (e2 8495653923123431417604973247489272438418190587263600148770280649306958101930
      4082367875863433681332203403145435568316851327593401208105741076214120093531) = true ∧
    onG2 (e2 1 0) (e2 1 0) = false := by
  have hP : P < 2 ^ 256 := by decide
  refine ⟨fun p _ k hk => ?_, by decide, by decide, fun p k hk => ?_, by decide +kernel, by decide +kernel⟩
  · rw [word_putWords]
    · cases p <;> interval_cases k <;> rfl
    · cases p with
      | inf => decide
      | aff x y =>
        have := x.lt; have := y.lt
        simp only [g1Wire, List.mem_cons, List.not_mem_nil, or_false]
        rintro v (rfl | rfl) <;> omega
  · rw [word_putWords]
    · cases p <;> interval_cases k <;> rfl
    · cases p with
      | inf => decide
      | aff x y =>
        have := x.c0.lt; have := x.c1.lt; have := y.c0.lt; have := y.c1.lt
        simp only [g2Wire, List.mem_cons, List.not_mem_nil, or_false]
        rintro v (rfl | rfl | rfl | rfl) <;> omega

theorem witness_MemoryTraps :
    (accessOf (.ldFp2 1 511)).loaded = some (511, 2) ∧ 512 < (511 : Imm9).toNat + 2 ∧
    (accessOf (.ldFp2 1 510)).loaded = some (510, 2) ∧ (510 : Imm9).toNat + 2 ≤ 512 ∧
    (∀ j < 1, word (putWords 510 [P - 1, P] State.reset) ((510 : Imm9).toNat + j) < P) ∧
    P ≤ word (putWords 510 [P - 1, P] State.reset) ((510 : Imm9).toNat + 1) ∧
    (accessOf (.stFp12 501 9)).stored = some (501, 12) ∧
    (∀ p ∈ (accessOf (.stFp12 501 9)).sources, (full.reg p.1).tag ∈ p.2) ∧ 512 < (501 : Imm9).toNat + 12 := by
  refine ⟨rfl, by decide, rfl, by decide, fun j hj => ?_, ?_, rfl, by decide +kernel, by decide⟩
  · rw [word_putWords _ _ _ _ (by decide)]
    interval_cases j
    decide
  · rw [word_putWords _ _ _ _ (by decide)]
    decide

theorem witness_StoreResults :
    full.reg 2 = .fp (n (P - 1)) ∧ full.reg 5 = .fp2 (e2 0 (P - 1)) ∧ (510 : Imm9).toNat + 2 ≤ 512 ∧
    full.reg 7 = .fp6 (e6 0 0 1 0 0 (P - 1)) ∧ (506 : Imm9).toNat + 6 ≤ 512 ∧ full.reg 9 = .fp12 vA ∧
    (500 : Imm9).toNat + 12 ≤ 512 ∧ (put [(1, .g1 .inf)]).reg 1 = .g1 .inf ∧
    full.reg 18 = .g1 (.aff (n 1) (n (P - 2))) ∧ full.reg 23 = .g2 .inf ∧ full.reg 20 = .g2 g2a ∧
    (508 : Imm9).toNat + 4 ≤ 512 ∧ full.reg 13 = .sc (BitVec.allOnes 256) := by decide +kernel

theorem witness_StoreThenLoad :
    full.reg 2 = .fp (n (P - 1)) ∧ full.reg 5 = .fp2 (e2 0 (P - 1)) ∧ full.reg 7 = .fp6 (e6 0 0 1 0 0 (P - 1)) ∧
    full.reg 9 = .fp12 vA ∧ full.reg 16 = .g1 g1a ∧ g1OnCurve g1a = true ∧ full.reg 23 = .g2 .inf ∧
    g2OnCurve .inf = true ∧ full.reg 20 = .g2 g2a ∧ g2OnCurve g2a = true ∧
    full.reg 13 = .sc (BitVec.allOnes 256) := by decide +kernel

theorem witness_MlinitResult :
    full.reg 20 = ofG2 .aff g2a ∧ full.reg 17 = ofG1 .jac g1b ∧ full.reg 23 = ofG2 .aff .inf := by decide +kernel

/-- A state in the middle of a loop, at the bit position and in the state given. -/
def inLoop (st : MlState) (i : BitVec 6) : State := State.reset.setMl { millerInit g2a g1a with st := st, i := i }

/-- Bit 63 of ATE is 1 and bit 0 is 0. -/
theorem witness_MlstepLoop :
    (inLoop .loop 63).ml.st = .loop ∧ (inLoop .loop 63).ml.t = g2a ∧ (inLoop .loop 63).ml.q = g2a ∧
    (inLoop .loop 63).ml.p = .aff (n 1) (n 2) ∧
    e2 8495653923123431417604973247489272438418190587263600148770280649306958101930
      4082367875863433681332203403145435568316851327593401208105741076214120093531 ≠ Fp2.zero ∧
    Nat.testBit 29793968203157093288 (inLoop .loop 63).ml.i.toNat = true ∧
    Nat.testBit 29793968203157093288 (inLoop .loop 0).ml.i.toNat = false := by decide +kernel

theorem witness_MlstepFrobenius :
    (inLoop .frob1 0).ml.t = g2a ∧ (inLoop .frob1 0).ml.q = g2a ∧ (inLoop .frob1 0).ml.p = .aff (n 1) (n 2) ∧
    (inLoop .frob1 0).ml.st = .frob1 ∧ (inLoop .frob2 0).ml.st = .frob2 := by decide +kernel

theorem witness_MlstepTraps :
    (inLoop .idle 0).ml.st = .idle ∧ (inLoop .done 0).ml.st = .done ∧
    (State.reset.setMl { millerInit g2a g1a with t := .inf }).ml.t = .inf ∧
    (State.reset.setMl { millerInit g2a g1a with t := .inf }).ml.st = .loop ∧
    (State.reset.setMl { millerInit g2a g1a with t := .inf, st := .frob1 }).ml.st = .frob1 ∧
    (State.reset.setMl { millerInit g2a g1a with t := .inf, st := .frob2 }).ml.st = .frob2 ∧
    (State.reset.setMl { millerInit g2a g1a with t := .aff (e2 1 0) Fp2.zero }).ml.t = .aff (e2 1 0) Fp2.zero := by
  decide +kernel

/-- A run that ends at once and one that fails at once, at a point with y = 0; a run of 66 steps is in
`witness_MillerRunLength`. -/
theorem witness_MillerResult :
    full.reg 20 = ofG2 .aff g2a ∧ full.reg 16 = ofG1 .aff g1a ∧ full.reg 23 = ofG2 .aff .inf ∧
    millerStepN 0 (millerInit .inf g1a) = some (millerInit .inf g1a) ∧ (millerInit .inf g1a).st = .done ∧
    (put [(1, .g2j (.aff (e2 1 0) Fp2.zero))]).reg 1 = ofG2 .jac (.aff (e2 1 0) Fp2.zero) ∧
    (millerInit (.aff (e2 1 0) Fp2.zero) g1a).st ≠ .done ∧
    (match millerStep (millerInit (.aff (e2 1 0) Fp2.zero) g1a) with
      | .ok _ => false
      | .error e => decide (e = .mlDegenerate .loop)) = true := by decide +kernel

theorem witness_MillerRunLength :
    g2a ≠ .inf ∧ g1a ≠ .inf ∧
    (millerStepN 1 (millerInit g2a g1a)).map (fun u => (u.st, u.i)) = some (.loop, 62) ∧
    (millerStepN 64 (millerInit g2a g1a)).map (fun u => u.st) = some .frob1 ∧
    (millerStepN 65 (millerInit g2a g1a)).map (fun u => u.st) = some .frob2 ∧
    (millerStepN 66 (millerInit g2a g1a)).map (fun u => u.st) = some .done := by decide +kernel

theorem witness_MillerReads : (inLoop .done 0).ml.st ≠ .idle ∧ State.reset.ml.st = .idle := by decide

/-- A line that is not vertical and a vertical one. -/
theorem witness_LineIsSparse :
    (line (.aff (e2 1 0) (e2 2 0)) (.aff (e2 2 0) (e2 3 0)) (.aff (n 1) (n 2))).isSome = true ∧
    (line (.aff (e2 1 0) (e2 2 0)) (.aff (e2 1 0) (e2 3 0)) (.aff (n 1) (n 2))).isSome = true := by decide +kernel

theorem witness_FexpResult : full.reg 9 = .fp12 vA ∧ vA ≠ Fp12.zero := by decide +kernel

theorem witness_FexpProperties :
    (3 : RegIdx) ≠ 14 ∧ full.reg 9 = .fp12 vA ∧ vA ≠ Fp12.zero ∧
    full.reg 14 = .sc 21888242871839275222246405745257275088548364400416034343698204186575808495617#256 := by
  decide +kernel

theorem witness_FexpHomomorphism : e6 0 0 0 0 0 1 ≠ Fp6.zero := by decide

/-- A state with something in the host's queue. -/
def hosted (run : RunState) (a : HostAct) : State := { full with run := run, hostQ := [a] }

theorem witness_HostRefusedWhileBusy :
    (hosted .busy (.read 0x1000)).run = .busy ∧ refusedWhileBusy 0x1000 ∧ refusedWhileBusy 0x17FF ∧
    refusedWhileBusy 0x4000 ∧ refusedWhileBusy 0x7FFF ∧ refusedWhileBusy 0x18 ∧ refusedWhileBusy 0x1B ∧
    (hosted .busy (.read 0x1000)).hostQ = .read 0x1000 :: [] ∧
    (hosted .busy (.write 0x18 5)).hostQ = .write 0x18 5 :: [] := by
  simp [refusedWhileBusy, hosted]

theorem witness_HostReads :
    (hosted .fault (.read 0x7FFF)).hostQ = .read 0x7FFF :: [] ∧
    ¬ ((hosted .fault (.read 0x7FFF)).run = .busy ∧ refusedWhileBusy 0x7FFF) ∧
    ¬ ((hosted .busy (.read 0x0C)).run = .busy ∧ refusedWhileBusy 0x0C) ∧
    ¬ ((hosted .busy (.read 0xFFC)).run = .busy ∧ refusedWhileBusy 0xFFC) ∧
    ¬ ((hosted .busy (.read 0x3FFF)).run = .busy ∧ refusedWhileBusy 0x3FFF) ∧
    (0x03 : BitVec 15).toNat / 4 = 0 ∧ (0x07 : BitVec 15).toNat / 4 = 1 ∧ (0x08 : BitVec 15).toNat / 4 = 2 ∧
    (0x0C : BitVec 15).toNat / 4 = 3 ∧ (0x10 : BitVec 15).toNat / 4 = 4 ∧ (0x14 : BitVec 15).toNat / 4 = 5 ∧
    (0x18 : BitVec 15).toNat / 4 = 6 ∧ (0x1F : BitVec 15).toNat / 4 = 7 ∧
    (0x17FC : BitVec 15).toNat / 4 = 0x1000 / 4 + 511 ∧ (0x1000 : BitVec 15).toNat / 4 = 0x1000 / 4 + 0 ∧
    (0x7FFF : BitVec 15).toNat / 4 = 0x4000 / 4 + 4095 ∧ (0x4000 : BitVec 15).toNat / 4 = 0x4000 / 4 + 0 ∧
    0x20 ≤ (0x20 : BitVec 15).toNat ∧ (0xFFF : BitVec 15).toNat < 0x1000 ∧
    0x1800 ≤ (0x1800 : BitVec 15).toNat ∧ (0x3FFF : BitVec 15).toNat < 0x4000 := by
  simp [refusedWhileBusy, hosted]

theorem witness_HostWrites :
    (hosted .halted (.write 0x7FFC 9)).hostQ = .write 0x7FFC 9 :: [] ∧
    ¬ ((hosted .halted (.write 0x7FFC 9)).run = .busy ∧ refusedWhileBusy 0x7FFC) ∧
    ¬ ((hosted .busy (.write 0x08 24)).run = .busy ∧ refusedWhileBusy 0x08) ∧
    ¬ ((hosted .busy (.write 0x1C 9)).run = .busy ∧ refusedWhileBusy 0x1C) ∧
    (0x0B : BitVec 15).toNat / 4 = 2 ∧ (0x18 : BitVec 15).toNat / 4 = 6 ∧
    (0x17FC : BitVec 15).toNat / 4 = 0x1000 / 4 + 511 ∧ (0x7FFC : BitVec 15).toNat / 4 = 0x4000 / 4 + 4095 ∧
    (0x1C : BitVec 15).toNat / 4 = 7 ∧ (0 : BitVec 15).toNat / 4 = 0 := by
  simp [refusedWhileBusy, hosted]

theorem witness_HostCtrlWrites :
    (hosted .busy (.write 0x05 5)).hostQ = .write 0x05 5 :: [] ∧ (0x05 : BitVec 15).toNat / 4 = 1 ∧
    (5#32 : Word).getLsbD 1 = false ∧ (4#32 : Word).getLsbD 1 = false ∧ (4#32 : Word).getLsbD 0 = false ∧
    (5#32 : Word).getLsbD 0 = true ∧ (hosted .busy (.write 0x05 5)).run = .busy ∧
    (hosted .fault (.write 0x04 1)).run ≠ .busy := by decide

/-- A step into HALTED, one into FAULT, and a host write that clears IRQ_PEND. -/
theorem witness_IrqPendChanges :
    (running 0x04000000).irqPend = false ∧
    (match step (running 0x04000000) with
      | .next t => decide (t.irqPend = true ∧ t.run = .halted)
      | .fault _ => false
      | .refused _ => false) = true ∧
    (match step (running 0) with
      | .next t => decide (t.irqPend = true ∧ t.run = .fault)
      | .fault _ => false
      | .refused _ => false) = true ∧
    (match step { hosted .halted (.write 0x08 8) with irqPend := true } with
      | .next t => decide (t.irqPend = false)
      | .fault _ => false
      | .refused _ => false) = true := by decide +kernel

/-- The reset state and one that differs from it only in ML_F, ML_T, ML_Q, ML_P and ML_L. -/
theorem witness_UnspecifiedMillerUnobservable :
    State.reset.sameObservable
      (State.reset.setMl { st := .idle, i := 0, f := vA, t := g2a, q := g2b, p := g1a, l := vB }) ∧
    (∃ t, step State.reset = .next t) ∧
    ∃ t, step (State.reset.setMl { st := .idle, i := 0, f := vA, t := g2a, q := g2b, p := g1a, l := vB }) = .next t :=
  ⟨⟨rfl, rfl, rfl, fun h => absurd rfl h⟩, ⟨_, rfl⟩, ⟨_, rfl⟩⟩

/-- 70_reset_and_hazards.md R542: a HALT launched at 511, with Word(0) = 7, out of a BUSY state with errors pending. -/
theorem test_cleanEntry :
    (let t := cleanEntry [0x04000000#32] 511 [(0, 7)] { full with run := .busy, hostErr := true, irqPend := true, pc := 9 }
     decide (t.run = .busy ∧ t.pc = 511 ∧ t.reg 1 = .empty ∧ t.ml.st = .idle ∧ t.hostErr = false ∧ t.irqPend = false ∧
       t.irqEn = false ∧ imemWord t 511 = 0x04000000#32 ∧ word t 0 = 7) &&
     decide (pcAfter (step t) = some (512, .halted))) = true := by decide +kernel

theorem witness_CleanEntry :
    (cleanEntry [0x04000000#32] 511 [(0, 7), (511, 5)] State.reset).CleanEntry [0x04000000#32] 511 [(0, 7), (511, 5)] :=
  ⟨by decide, by decide, State.reset, rfl⟩

end Sys2Proof.Tests
end

section
/-! The tower's ring laws, level by level, and the powers that square-and-multiply computes
(42_fp.md R225, 43_fp2.md R270, 44_fp6.md R306, 00_scope.md R16). -/

namespace Sys2Proof.Machine

/-! ## A commutative ring from the model's ring laws -/

section RingOfLaws
variable {T : Type} {zero one : T} {add sub mul : T → T → T} {neg : T → T}
  (h : RingLaws zero one add sub mul neg)
include h

theorem RingLaws.add_comm (a b : T) : add a b = add b a := (h a b a).1
theorem RingLaws.add_assoc (a b c : T) : add a (add b c) = add (add a b) c := (h a b c).2.1
theorem RingLaws.zero_add (a : T) : add zero a = a := (h a a a).2.2.1
theorem RingLaws.add_neg (a : T) : add a (neg a) = zero := (h a a a).2.2.2.1
theorem RingLaws.sub_eq_add_neg (a b : T) : sub a b = add a (neg b) := (h a b a).2.2.2.2.1
theorem RingLaws.mul_comm (a b : T) : mul a b = mul b a := (h a b a).2.2.2.2.2.2.1
theorem RingLaws.mul_assoc (a b c : T) : mul a (mul b c) = mul (mul a b) c := (h a b c).2.2.2.2.2.2.2.1
theorem RingLaws.one_mul (a : T) : mul one a = a := (h a a a).2.2.2.2.2.2.2.2.1
theorem RingLaws.mul_add (a b c : T) : mul a (add b c) = add (mul a b) (mul a c) := (h a b c).2.2.2.2.2.2.2.2.2

theorem RingLaws.add_zero (a : T) : add a zero = a := (h.add_comm a zero).trans (h.zero_add a)
theorem RingLaws.mul_one (a : T) : mul a one = a := (h.mul_comm a one).trans (h.one_mul a)

theorem RingLaws.add_mul (a b c : T) : mul (add a b) c = add (mul a c) (mul b c) := by
  rw [h.mul_comm, h.mul_add, h.mul_comm c a, h.mul_comm c b]

/-- `0·a = 0·a + 0·a`, and the negative of one of them cancels it. -/
theorem RingLaws.zero_mul (a : T) : mul zero a = zero := by
  have hdouble : add (mul zero a) (mul zero a) = mul zero a := by rw [← h.add_mul, h.zero_add]
  calc mul zero a = add (mul zero a) (add (mul zero a) (neg (mul zero a))) := by rw [h.add_neg, h.add_zero]
    _ = add (add (mul zero a) (mul zero a)) (neg (mul zero a)) := h.add_assoc _ _ _
    _ = zero := by rw [hdouble, h.add_neg]

/-- A level of the tower as a commutative ring of Mathlib's, in which `ring` proves its identities. -/
abbrev RingLaws.commRing : CommRing T :=
  letI : Zero T := ⟨zero⟩
  letI : Add T := ⟨add⟩
  letI : Neg T := ⟨neg⟩
  { one := one
    sub := sub
    mul := mul
    nsmul := nsmulRec
    zsmul := zsmulRec
    add_comm := h.add_comm
    add_assoc := fun a b c => (h.add_assoc a b c).symm
    zero_add := h.zero_add
    add_zero := h.add_zero
    neg_add_cancel := fun a => (h.add_comm (neg a) a).trans (h.add_neg a)
    sub_eq_add_neg := h.sub_eq_add_neg
    mul_comm := h.mul_comm
    mul_assoc := fun a b c => (h.mul_assoc a b c).symm
    one_mul := h.one_mul
    mul_one := h.mul_one
    left_distrib := h.mul_add
    right_distrib := h.add_mul
    zero_mul := h.zero_mul
    mul_zero := fun a => (h.mul_comm a zero).trans (h.zero_mul a) }

/-- The operations of a level are those of its ring. -/
theorem RingLaws.ops_eq :
    letI := h.commRing
    zero = 0 ∧ one = 1 ∧ (∀ a b, add a b = a + b) ∧ (∀ a b, sub a b = a - b) ∧ (∀ a b, mul a b = a * b) ∧
      ∀ a, neg a = -a :=
  ⟨rfl, rfl, fun _ _ => rfl, fun _ _ => rfl, fun _ _ => rfl, fun _ => rfl⟩

end RingOfLaws

/-! ## The four levels: each law holds coefficient by coefficient, as an identity in the ring of the level below -/

/-- Fp's laws are those of the residue classes mod P (42_fp.md R225). -/
theorem fp_ringLaws : RingLaws Fp.zero Fp.one Fp.add Fp.sub Fp.mul Fp.neg := by
  intro a b c
  refine ⟨?_, ?_, ?_, ?_, ?_, ?_, ?_, ?_, ?_, ?_⟩ <;> apply Fp.toZMod_injective <;>
    simp only [Fp.toZMod_zero, Fp.toZMod_one, Fp.toZMod_add, Fp.toZMod_sub, Fp.toZMod_mul, Fp.toZMod_neg] <;> ring

/-- The laws of Fp2 = Fp[u]/(u² + 1) (43_fp2.md R270). -/
theorem fp2_ringLaws : RingLaws Fp2.zero Fp2.one Fp2.add Fp2.sub Fp2.mul Fp2.neg := by
  intro a b c
  let _ := fp_ringLaws.commRing
  refine ⟨?_, ?_, ?_, ?_, ?_, ?_, ?_, ?_, ?_, ?_⟩ <;> apply Fp2.ext_coeffs <;>
    simp only [Fp2.zero, Fp2.one, Fp2.add, Fp2.sub, Fp2.mul, Fp2.neg, fp_ringLaws.ops_eq] <;> ring

/-- `mulXi` is the product with ξ = 9 + u (43_fp2.md R251). -/
theorem fp2_mulXi_eq_mul (a : Fp2) : a.mulXi = Fp2.xi.mul a := by
  let _ := fp_ringLaws.commRing
  have hone : Fp.ofNat 1 = 1 := rfl
  apply Fp2.ext_coeffs <;> simp only [Fp2.mulXi, Fp2.xi, Fp2.mul, hone, fp_ringLaws.ops_eq] <;> ring

/-- The laws of Fp6 = Fp2[v]/(v³ − ξ) (44_fp6.md R306). -/
theorem fp6_ringLaws : RingLaws Fp6.zero Fp6.one Fp6.add Fp6.sub Fp6.mul Fp6.neg := by
  intro a b c
  let _ := fp2_ringLaws.commRing
  refine ⟨?_, ?_, ?_, ?_, ?_, ?_, ?_, ?_, ?_, ?_⟩ <;> apply Fp6.ext_coeffs <;>
    simp only [Fp6.zero, Fp6.one, Fp6.add, Fp6.sub, Fp6.mul, Fp6.neg, fp2_mulXi_eq_mul, fp2_ringLaws.ops_eq] <;> ring

/-- `mulV` is the product with v (44_fp6.md R290). -/
theorem fp6_mulV_eq_mul (a : Fp6) : a.mulV = Fp6.mul ⟨Fp2.zero, Fp2.one, Fp2.zero⟩ a := by
  let _ := fp2_ringLaws.commRing
  apply Fp6.ext_coeffs <;> simp only [Fp6.mulV, Fp6.mul, fp2_mulXi_eq_mul, fp2_ringLaws.ops_eq] <;> ring

/-- The laws of Fp12 = Fp6[w]/(w² − v) (45_fp12.md R339). -/
theorem fp12_ringLaws : RingLaws Fp12.zero Fp12.one Fp12.add Fp12.sub Fp12.mul Fp12.neg := by
  intro a b c
  let _ := fp6_ringLaws.commRing
  refine ⟨?_, ?_, ?_, ?_, ?_, ?_, ?_, ?_, ?_, ?_⟩ <;> apply Fp12.ext_coeffs <;>
    simp only [Fp12.zero, Fp12.one, Fp12.add, Fp12.sub, Fp12.mul, Fp12.neg, fp6_mulV_eq_mul, fp6_ringLaws.ops_eq] <;>
    ring

end Sys2Proof.Machine
end

section
/-! Square and multiply computes the power (00_scope.md R16), with POW at every level and FEXP as its uses. -/

namespace Sys2Proof.Machine

/-! ## Square and multiply -/

theorem div_two_pow_bitlen (e : Nat) : e / 2 ^ bitlen e = 0 := by
  by_cases he : e = 0
  · rw [he, Nat.zero_div]
  · rw [bitlen, if_neg he, Nat.div_eq_of_lt Nat.lt_log2_self]

section Power
variable {T : Type} {op : T → T → T} {one : T} (a : T) (hassoc : ∀ x y z, op x (op y z) = op (op x y) z)
  (hone : ∀ x, op x one = x)
include hassoc hone

/-- Powers of one base multiply by adding their exponents. -/
theorem op_iterate_iterate (m n : Nat) :
    op ((op · a)^[m] one) ((op · a)^[n] one) = (op · a)^[m + n] one := by
  induction n with
  | zero => exact hone _
  | succ n ih =>
    rw [Function.iterate_succ_apply', hassoc, ih, ← Nat.add_assoc, Function.iterate_succ_apply']

/-- The loop's invariant: with the bits of `e` from `i` up behind it, the accumulator is the power by those bits. -/
theorem sqMulLoop_eq_iterate (e i : Nat) :
    sqMulLoop op a e i ((op · a)^[e / 2 ^ i] one) = (op · a)^[e] one := by
  induction i with
  | zero => rw [sqMulLoop_zero, Nat.pow_zero, Nat.div_one]
  | succ i ih =>
    have hhalf : e / 2 ^ (i + 1) = e / 2 ^ i / 2 := by rw [Nat.pow_succ, Nat.div_div_eq_div_mul]
    have hbit : e.testBit i = decide (e / 2 ^ i % 2 = 1) := Nat.testBit_eq_decide_div_mod_eq
    rw [sqMulLoop_succ, op_iterate_iterate a hassoc hone, hbit, ← ih, hhalf]
    generalize e / 2 ^ i = m
    by_cases hodd : m % 2 = 1
    · have hm : m = m / 2 + m / 2 + 1 := by omega
      conv_rhs => rw [hm, Function.iterate_succ_apply']
      simp [hodd]
    · have hm : m / 2 + m / 2 = m := by omega
      simp [hodd, hm]

/-- Square and multiply gives the product of `e` factors (00_scope.md R16). -/
theorem sqMul_eq_iterate (e : Nat) :
    sqMul op one a e = (op · a)^[e] one := by
  have h := sqMulLoop_eq_iterate a hassoc hone e (bitlen e)
  rwa [div_two_pow_bitlen] at h

end Power

/-! ## The powers of the tower -/

theorem fp_pow_eq_iterate (a : Fp) (e : Nat) : a.pow e = (fun x => x.mul a)^[e] Fp.one :=
  sqMul_eq_iterate a fp_ringLaws.mul_assoc fp_ringLaws.mul_one e

theorem fp2_pow_eq_iterate (a : Fp2) (e : Nat) : a.pow e = (fun x => x.mul a)^[e] Fp2.one :=
  sqMul_eq_iterate a fp2_ringLaws.mul_assoc fp2_ringLaws.mul_one e

theorem fp6_pow_eq_iterate (a : Fp6) (e : Nat) : a.pow e = (fun x => x.mul a)^[e] Fp6.one :=
  sqMul_eq_iterate a fp6_ringLaws.mul_assoc fp6_ringLaws.mul_one e

theorem fp12_pow_eq_iterate (a : Fp12) (e : Nat) : a.pow e = (fun x => x.mul a)^[e] Fp12.one :=
  sqMul_eq_iterate a fp12_ringLaws.mul_assoc fp12_ringLaws.mul_one e

theorem val_fp_pow (a : Fp) (e : Nat) : (a.pow e).val = a.val ^ e % P := by
  rw [fp_pow_eq_iterate]
  induction e with
  | zero => rfl
  | succ e ih => rw [Function.iterate_succ_apply', Fp.val_mul, ih, Nat.mod_mul_mod, Nat.pow_succ]

/-! ## POW and FEXP -/

section Read
variable {s : State} {rd rs1 rs2 : RegIdx} {α β : Type} {v1 v2 : RegVal} {a : α} {b : β}

/-- A source that holds a value of an accepted tag is read as that value. -/
theorem src_of_reg {want : RegVal → Option α} (h1 : s.reg rs1 = v1) (he1 : v1 ≠ .empty) (hw1 : want v1 = some a) :
    src s rs1 want = .ok a := by
  subst h1
  exact src_ok he1 hw1

/-- Two sources that hold values of accepted tags are read as these values. -/
theorem srcs_of_reg {want1 : RegVal → Option α} {want2 : RegVal → Option β} (h1 : s.reg rs1 = v1)
    (h2 : s.reg rs2 = v2) (he1 : v1 ≠ .empty) (he2 : v2 ≠ .empty) (hw1 : want1 v1 = some a) (hw2 : want2 v2 = some b) :
    srcs s rs1 want1 rs2 want2 = .ok (a, b) := by
  subst h1 h2
  exact srcs_ok he1 he2 hw1 hw2

/-- An instruction whose operands are read writes its function of them. -/
theorem commitReg_map_ok {r : Except Exc α} (f : α → RegVal) (h : r = .ok a) :
    commitReg rd (r.map f) s = .next (s.setReg rd (f a)).advance := by
  rw [h]; rfl

end Read

/-- Settles O28: the operands are read, and square and multiply gives the product of e factors. -/
theorem powResults : Obligations.PowResults := by
  intro s rd rs1 rs2 e he
  refine ⟨fun a ha => ⟨a.pow e.toNat, val_fp_pow a e.toNat, ?_⟩, fun a ha => ?_, fun a ha => ?_, fun a ha => ?_⟩
  · have hsrcs : srcs s rs1 asFp rs2 asSc = .ok (a, e) := srcs_of_reg ha he nofun nofun rfl rfl
    exact commitReg_map_ok _ hsrcs
  · have hsrcs : srcs s rs1 asFp2 rs2 asSc = .ok (a, e) := srcs_of_reg ha he nofun nofun rfl rfl
    rw [← fp2_pow_eq_iterate]
    exact commitReg_map_ok _ hsrcs
  · have hsrcs : srcs s rs1 asFp6 rs2 asSc = .ok (a, e) := srcs_of_reg ha he nofun nofun rfl rfl
    rw [← fp6_pow_eq_iterate]
    exact commitReg_map_ok _ hsrcs
  · have hsrcs : srcs s rs1 asFp12 rs2 asSc = .ok (a, e) := srcs_of_reg ha he nofun nofun rfl rfl
    rw [← fp12_pow_eq_iterate]
    exact commitReg_map_ok _ hsrcs

/-- E·r = P¹² − 1: the division of 49_final_exp.md R460 is exact. -/
theorem finalExponent_mul_groupOrder : finalExponent * groupOrder = P ^ 12 - 1 :=
  Nat.div_mul_cancel (by decide +kernel)

/-- FEXP of a nonzero operand writes its final power (49_final_exp.md R461). -/
theorem exec_fexp_of_ne_zero {s : State} {rd rs1 : RegIdx} {f : Fp12} (hf : s.reg rs1 = .fp12 f)
    (hne : f ≠ Fp12.zero) :
    exec (.fexp rd rs1) s = .next (s.setReg rd (.fp12 (finalExp f))).advance := by
  have hsrc : src s rs1 asFp12 = .ok f := src_of_reg hf nofun rfl
  change execFexp rd rs1 s = _
  simp only [execFexp, hsrc, Except.bind, if_neg hne, commitReg]

/-- Settles O52: E is the exact quotient, and square and multiply gives the product of E factors. -/
theorem fexpResult : Obligations.FexpResult := by
  intro s rd rs1 f hf hne
  refine ⟨finalExponent, finalExponent_mul_groupOrder, ?_⟩
  rw [← fp12_pow_eq_iterate]
  exact exec_fexp_of_ne_zero hf hne

end Sys2Proof.Machine
end

section
/-! MILLER as a run of completed steps from MLINIT (48_pairing.md R429, R434). -/

namespace Sys2Proof.Machine

/-! ## The length of a run -/

/-- The steps from a Miller unit to DONE, 0 where there is none to make (48_pairing.md R434). -/
def Miller.stepsLeft (u : Miller) : Nat :=
  match u.st with
  | .idle => 0
  | .loop => u.i.toNat + 3
  | .frob1 => 2
  | .frob2 => 1
  | .done => 0

/-- A completed step starts in a loop in progress, does not lead to IDLE and is one step nearer to DONE. -/
theorem stepsLeft_of_millerStep {u v : Miller} (h : millerStep u = .ok v) :
    u.st ≠ .done ∧ v.st ≠ .idle ∧ u.stepsLeft = v.stepsLeft + 1 := by
  obtain ⟨-, -, ⟨hu, hi, hv, hvi⟩ | ⟨hu, hi, hv, -⟩ | ⟨hu, hv, -⟩ | ⟨hu, hv, -⟩⟩ := millerStep_ok h
  · have hpos : u.i.toNat ≠ 0 := fun h0 => hi (BitVec.eq_of_toNat_eq h0)
    have hdec : (u.i - 1).toNat + 1 = u.i.toNat := by bv_omega
    simp only [Miller.stepsLeft, hu, hv, hvi]
    refine ⟨nofun, nofun, by omega⟩
  all_goals simp [Miller.stepsLeft, *]

/-- A run of completed steps: how many it makes, and that it does not fall back to IDLE. -/
theorem stepsLeft_of_millerStepN {k : Nat} {u v : Miller} (h : millerStepN k u = some v) (hu : u.st ≠ .idle) :
    v.st ≠ .idle ∧ u.stepsLeft = v.stepsLeft + k := by
  induction k generalizing u with
  | zero =>
    cases h
    exact ⟨hu, rfl⟩
  | succ k ih =>
    rw [millerStepN] at h
    split at h
    · next w hw =>
      obtain ⟨-, hwi, hlen⟩ := stepsLeft_of_millerStep hw
      obtain ⟨hv, hrest⟩ := ih h hwi
      exact ⟨hv, by omega⟩
    · cases h

theorem millerInit_st_ne_idle (q : G2) (p : G1) : (millerInit q p).st ≠ .idle := by
  simp only [millerInit]
  split <;> nofun

theorem stepsLeft_millerInit_le (q : G2) (p : G1) : (millerInit q p).stepsLeft ≤ millerSteps := by
  simp only [Miller.stepsLeft, millerInit, millerSteps]
  by_cases hinf : p = .inf ∨ q = .inf
  · simp [hinf]
  · simp [hinf]

/-! ## The loop of MILLER -/

theorem millerLoop_of_done (n : Nat) {u : Miller} (h : u.st = .done) : millerLoop n u = (u, none) := by
  cases n with
  | zero => rfl
  | succ n => rw [millerLoop, if_pos h]

theorem millerLoop_of_error (n : Nat) {u : Miller} {e : Exc} (h : u.st ≠ .done) (he : millerStep u = .error e) :
    millerLoop (n + 1) u = (u, some e) := by rw [millerLoop, if_neg h, he]

/-- The loop makes the steps of a run that completes, and goes on from where they lead. -/
theorem millerLoop_add {k : Nat} {u v : Miller} (h : millerStepN k u = some v) (n : Nat) :
    millerLoop (k + n) u = millerLoop n v := by
  induction k generalizing u with
  | zero =>
    cases h
    rw [Nat.zero_add]
  | succ k ih =>
    rw [millerStepN] at h
    split at h
    · next w hw =>
      obtain ⟨hu, -, -⟩ := stepsLeft_of_millerStep hw
      rw [Nat.add_right_comm, millerLoop, if_neg hu, hw]
      exact ih h
    · cases h

/-- MILLER's loop, on a run that ends in DONE. -/
theorem millerLoop_init_of_done {k : Nat} {q : G2} {p : G1} {u : Miller}
    (h : millerStepN k (millerInit q p) = some u) (hu : u.st = .done) :
    millerLoop millerSteps (millerInit q p) = (u, none) := by
  obtain ⟨-, hlen⟩ := stepsLeft_of_millerStepN h (millerInit_st_ne_idle q p)
  obtain ⟨n, hn⟩ : ∃ n, millerSteps = k + n :=
    Nat.exists_eq_add_of_le (by have := stepsLeft_millerInit_le q p; omega)
  rw [hn, millerLoop_add h, millerLoop_of_done n hu]

/-- MILLER's loop, on a run whose next step raises: that step is within the bound, and it raises ML_DEGENERATE. -/
theorem millerLoop_init_of_error {k : Nat} {q : G2} {p : G1} {u : Miller} {e : Exc}
    (h : millerStepN k (millerInit q p) = some u) (hu : u.st ≠ .done) (he : millerStep u = .error e) :
    millerLoop millerSteps (millerInit q p) = (u, some e) ∧ e = .mlDegenerate u.st := by
  obtain ⟨hidle, hlen⟩ := stepsLeft_of_millerStepN h (millerInit_st_ne_idle q p)
  obtain ⟨hst | hst, -⟩ | ⟨hst, hdeg⟩ := millerStep_error he
  · exact absurd hst hidle
  · exact absurd hst hu
  · have hpos : 0 < u.stepsLeft := by rcases hst with hst | hst | hst <;> simp [Miller.stepsLeft, hst]
    obtain ⟨n, hn⟩ : ∃ n, millerSteps = (k + 1) + n :=
      Nat.exists_eq_add_of_le (by have := stepsLeft_millerInit_le q p; omega)
    rw [hn, Nat.add_right_comm, Nat.add_assoc, millerLoop_add h, millerLoop_of_error n hu he]
    exact ⟨rfl, hdeg⟩

/-! ## The instruction -/

theorem asG1_ofG1 (m : Form) (p : G1) : asG1 (ofG1 m p) = some (m, p) := by cases m <;> rfl
theorem asG2_ofG2 (m : Form) (q : G2) : asG2 (ofG2 m q) = some (m, q) := by cases m <;> rfl
theorem ofG1_ne_empty (m : Form) (p : G1) : ofG1 m p ≠ .empty := by cases m <;> nofun
theorem ofG2_ne_empty (m : Form) (q : G2) : ofG2 m q ≠ .empty := by cases m <;> nofun

/-- A trap is the entry of 60_exceptions.md R492 with the exception's code and info. -/
theorem trap_eq_faulted (e : Exc) (s : State) : trap e s = s.faulted e.code e.info := rfl

section Exec
variable {s : State} {rd rs1 rs2 : RegIdx} {m n : Form} {q : G2} {p : G1} {u : Miller}

/-- A G2 and a G1 operand, each in any form, are read as their points. -/
theorem srcs_of_points (hq : s.reg rs1 = ofG2 m q) (hp : s.reg rs2 = ofG1 n p) :
    srcs s rs1 asG2 rs2 asG1 = .ok ((m, q), (n, p)) :=
  srcs_of_reg hq hp (ofG2_ne_empty m q) (ofG1_ne_empty n p) (asG2_ofG2 m q) (asG1_ofG1 n p)

theorem exec_miller_of_done {k : Nat} (hq : s.reg rs1 = ofG2 m q) (hp : s.reg rs2 = ofG1 n p)
    (h : millerStepN k (millerInit q p) = some u) (hu : u.st = .done) :
    exec (.miller rd rs1 rs2) s = .next ((s.setMl u).setReg rd (.fp12 u.f)).advance := by
  change execMiller rd rs1 rs2 s = _
  simp only [execMiller, srcs_of_points hq hp, millerLoop_init_of_done h hu, commitReg]

theorem exec_miller_of_error {k : Nat} {e : Exc} (hq : s.reg rs1 = ofG2 m q) (hp : s.reg rs2 = ofG1 n p)
    (h : millerStepN k (millerInit q p) = some u) (hu : u.st ≠ .done) (he : millerStep u = .error e) :
    exec (.miller rd rs1 rs2) s = .next ((s.setMl u).faulted 10 (BitVec.ofNat 32 u.st.code)) := by
  obtain ⟨hloop, rfl⟩ := millerLoop_init_of_error h hu he
  change execMiller rd rs1 rs2 s = _
  simp only [execMiller, srcs_of_points hq hp, hloop, trap_eq_faulted, Exc.code, Exc.info]

end Exec

/-- With O on either side MLINIT is already in DONE (48_pairing.md R427). -/
theorem millerInit_of_inf {q : G2} {p : G1} (h : q = .inf ∨ p = .inf) :
    millerInit q p = { st := .done, i := 63, f := Fp12.one, t := q, q := q, p := p, l := Fp12.one } := by
  rw [millerInit, if_pos h.symm]

/-- Settles O48: a run from MLINIT makes at most 66 steps, so MILLER's loop ends where the run ends or raises. -/
theorem millerResult : Obligations.MillerResult := by
  intro s rd rs1 rs2 m n q p hq hp
  refine ⟨fun k u h hu => exec_miller_of_done hq hp h hu, fun hinf => ?_,
    fun k u e h hu he => exec_miller_of_error hq hp h hu he⟩
  rw [← millerInit_of_inf hinf]
  have hdone : (millerInit q p).st = .done := by rw [millerInit_of_inf hinf]
  exact exec_miller_of_done (k := 0) hq hp rfl hdone

end Sys2Proof.Machine
end

section
/-! What an instruction can do, once for all 105 of them: by which operation it commits, read with `accessOf`
(40_control.md R159, 10_state.md R36 to R41). -/

namespace Sys2Proof.Machine

/-- How `exec` answers: by one of the shared commits, in agreement with what `accessOf` lists, or as one of the four
control transfers, HALT and MILLER. -/
inductive Commits (i : Instr) (s : State) : Prop where
  /-- a register is written -/
  | reg (rd : RegIdx) (r : Except Exc RegVal) (hdest : (accessOf i).dest = some rd) (hpc : nextPc i s = s.pc + 1)
      (h : exec i s = commitReg rd r s)
  /-- FLAG is written -/
  | flag (r : Except Exc Bool) (hflag : (accessOf i).flag = true) (hpc : nextPc i s = s.pc + 1)
      (h : exec i s = commitFlag r s)
  /-- the words of an operand are stored, as many as `accessOf` lists -/
  | store {α : Type} (g : Imm9) (rs1 : RegIdx) (want : RegVal → Option α) (n : Nat) (words : α → List Nat)
      (hstored : (accessOf i).stored = some (g, n)) (hlen : ∀ a, (words a).length = n) (hpc : nextPc i s = s.pc + 1)
      (h : exec i s = commitDmem (storeTo s g.toNat rs1 want n words) s)
  /-- the Miller unit is written -/
  | ml (r : Except Exc Miller) (hml : (accessOf i).miller = true) (hpc : nextPc i s = s.pc + 1)
      (h : exec i s = commitMl r s)
  /-- PC alone is written -/
  | goto (h : exec i s = .next (s.goto (nextPc i s)))
  | halt (hi : i = .halt) (h : exec i s = execHalt s)
  | miller (rd rs1 rs2 : RegIdx) (hi : i = .miller rd rs1 rs2) (h : exec i s = execMiller rd rs1 rs2 s)

theorem length_g1Wire (p : G1) : (g1Wire p).length = 2 := by cases p <;> rfl
theorem length_g2Wire (p : G2) : (g2Wire p).length = 4 := by cases p <;> rfl

/-- BT and BF go to the PC their access row gives for either FLAG (40_control.md R153, R154). -/
theorem exec_bt (target : Imm9) (s : State) : exec (.bt target) s = .next (s.goto (nextPc (.bt target) s)) := by
  change execBt target s = _
  cases hf : s.flag <;> simp [execBt, nextPc, accessOf, hf, State.goto, State.advance]

theorem exec_bf (target : Imm9) (s : State) : exec (.bf target) s = .next (s.goto (nextPc (.bf target) s)) := by
  change execBf target s = _
  cases hf : s.flag <;> simp [execBf, nextPc, accessOf, hf, State.goto, State.advance]

/-- Every instruction commits in one of these ways. -/
theorem exec_commits (i : Instr) (s : State) : Commits i s :=
  match i with
  | .halt => .halt rfl rfl
  | .nop | .jmp _ => .goto rfl
  | .bt target => .goto (exec_bt target s)
  | .bf target => .goto (exec_bf target s)
  | .miller rd rs1 rs2 => .miller rd rs1 rs2 rfl rfl
  | .mlinit .. | .mlstep => .ml _ rfl rfl rfl
  | .stFp g rs1 => .store g rs1 _ 1 _ rfl (fun _ => rfl) rfl rfl
  | .stFp2 g rs1 => .store g rs1 _ 2 _ rfl (fun _ => rfl) rfl rfl
  | .stFp6 g rs1 => .store g rs1 _ 6 _ rfl (fun _ => rfl) rfl rfl
  | .stFp12 g rs1 => .store g rs1 _ 12 _ rfl (fun _ => rfl) rfl rfl
  | .stsc g rs1 => .store g rs1 _ 1 _ rfl (fun _ => rfl) rfl rfl
  | .stg1 g rs1 => .store g rs1 _ 2 _ rfl length_g1Wire rfl rfl
  | .stg2 g rs1 => .store g rs1 _ 4 _ rfl length_g2Wire rfl rfl
  | .mldone => .flag (.ok _) rfl rfl rfl
  | .eq .. | .iszeroFp _ | .iszeroFp2 _ | .iszeroFp6 _ | .iszeroFp12 _ | .isoneFp _ | .isoneFp2 _
  | .isoneFp6 _ | .isoneFp12 _ | .isinfG1 _ | .isinfG2 _ => .flag _ rfl rfl rfl
  | .clr _ | .zeroFp _ | .zeroFp2 _ | .zeroFp6 _ | .zeroFp12 _ | .oneFp _ | .oneFp2 _ | .oneFp6 _ | .oneFp12 _
  | .pinfG1 _ | .pinfG2 _ | .ldsc .. => .reg _ (.ok _) rfl rfl rfl
  | .mov .. | .ldFp .. | .ldFp2 .. | .ldFp6 .. | .ldFp12 .. | .ldg1 .. | .ldg2 .. | .mlrdf _ | .mlrdt _ | .mlrdl _
  | .fexp .. | .addFp .. | .addFp2 .. | .addFp6 .. | .addFp12 .. | .subFp .. | .subFp2 .. | .subFp6 .. | .subFp12 ..
  | .negFp .. | .negFp2 .. | .negFp6 .. | .negFp12 .. | .mulFp .. | .mulFp2 .. | .mulFp6 .. | .mulFp12 ..
  | .sqrFp .. | .sqrFp2 .. | .sqrFp6 .. | .sqrFp12 .. | .invFp .. | .invFp2 .. | .invFp6 .. | .invFp12 ..
  | .powFp .. | .powFp2 .. | .powFp6 .. | .powFp12 .. | .conjFp2 .. | .conjFp12 .. | .frobFp .. | .frobFp2 ..
  | .frobFp6 .. | .frobFp12 .. | .mulxi .. | .embFp2 .. | .embFp6 .. | .embFp12 .. | .mkfp2 .. | .coefFp ..
  | .coefFp2 .. | .coefFp6 .. | .coefFp12 .. | .paddG1 .. | .paddG2 .. | .pdblG1 .. | .pdblG2 .. | .pnegG1 ..
  | .pnegG2 .. | .pmulG1 .. | .pmulG2 .. | .ptojG1 .. | .ptojG2 .. | .ptoaG1 .. | .ptoaG2 .. =>
    .reg _ _ rfl rfl rfl

/-- Everything MILLER can do: raise on its operands, raise in its loop with the completed steps kept, or complete. -/
theorem execMiller_next {rd rs1 rs2 : RegIdx} {s t : State} (h : execMiller rd rs1 rs2 s = .next t) :
    (∃ e, srcs s rs1 asG2 rs2 asG1 = .error e ∧ t = trap e s) ∨
    ∃ x u, srcs s rs1 asG2 rs2 asG1 = .ok x ∧
      ((∃ e, millerLoop millerSteps (millerInit x.1.2 x.2.2) = (u, some e) ∧ t = trap e (s.setMl u)) ∨
        (millerLoop millerSteps (millerInit x.1.2 x.2.2) = (u, none) ∧
          t = ((s.setMl u).setReg rd (.fp12 u.f)).advance)) := by
  unfold execMiller at h
  split at h
  · next e hs => exact .inl ⟨e, hs, by simpa using h.symm⟩
  · next x hs =>
    split at h
    · next u e hl => exact .inr ⟨x, u, hs, .inl ⟨e, hl, by simpa using h.symm⟩⟩
    · next u hl => exact .inr ⟨x, u, hs, .inr ⟨hl, by simpa [commitReg] using h.symm⟩⟩

/-! ## PC and the status registers -/

/-- The causes are numbered 1 to 10 (60_exceptions.md R480). -/
theorem Exc.code_range (e : Exc) : 1 ≤ e.code.toNat ∧ e.code.toNat ≤ 10 := by
  cases e <;> simp [Exc.code]

/-- The instruction completed: of PC and the status registers only PC moved, to the instruction's next PC. -/
def MovesOnlyPc (i : Instr) (s t : State) : Prop :=
  t.pc = nextPc i s ∧ t.run = s.run ∧ t.cause = s.cause ∧ t.fpc = s.fpc ∧ t.finsn = s.finsn ∧
    t.finfo = s.finfo ∧ t.irqPend = s.irqPend

/-- The instruction raised: the trap entry was made, and at most a MILLER moved the Miller unit (00_scope.md R13). -/
def Traps (i : Instr) (s t : State) : Prop :=
  ∃ (c : BitVec 5) (info : Word) (u : Miller), 1 ≤ c.toNat ∧ c.toNat ≤ 10 ∧
    t = { s.faulted c info with ml := u } ∧ (u ≠ s.ml → ∃ rd rq rp, i = .miller rd rq rp)

theorem traps_of_trap (i : Instr) (e : Exc) (s : State) : Traps i s (trap e s) :=
  ⟨e.code, e.info, s.ml, e.code_range.1, e.code_range.2, rfl, fun h => absurd rfl h⟩

theorem traps_of_trap_setMl (rd rs1 rs2 : RegIdx) (e : Exc) (s : State) (u : Miller) :
    Traps (.miller rd rs1 rs2) s (trap e (s.setMl u)) :=
  ⟨e.code, e.info, u, e.code_range.1, e.code_range.2, rfl, fun _ => ⟨rd, rs1, rs2, rfl⟩⟩

/-- Settles O10, by the way the instruction commits: each commit leaves the status registers alone or is the trap. -/
theorem frameStatusAndPc : Obligations.FrameStatusAndPc := by
  intro i s t h
  change MovesOnlyPc i s t ∨ _ ∨ Traps i s t
  cases exec_commits i s with
  | reg rd r _ hpc hx =>
    obtain ⟨v, -, rfl⟩ | ⟨e, -, rfl⟩ := commitReg_next (hx ▸ h)
    · exact .inl ⟨hpc.symm, rfl, rfl, rfl, rfl, rfl, rfl⟩
    · exact .inr (.inr (traps_of_trap i e s))
  | flag r _ hpc hx =>
    obtain ⟨b, -, rfl⟩ | ⟨e, -, rfl⟩ := commitFlag_next (hx ▸ h)
    · exact .inl ⟨hpc.symm, rfl, rfl, rfl, rfl, rfl, rfl⟩
    · exact .inr (.inr (traps_of_trap i e s))
  | store g rs1 want n words _ _ hpc hx =>
    obtain ⟨m, -, rfl⟩ | ⟨e, -, rfl⟩ := commitDmem_next (hx ▸ h)
    · exact .inl ⟨hpc.symm, rfl, rfl, rfl, rfl, rfl, rfl⟩
    · exact .inr (.inr (traps_of_trap i e s))
  | ml r _ hpc hx =>
    obtain ⟨u, -, rfl⟩ | ⟨e, -, rfl⟩ := commitMl_next (hx ▸ h)
    · exact .inl ⟨hpc.symm, rfl, rfl, rfl, rfl, rfl, rfl⟩
    · exact .inr (.inr (traps_of_trap i e s))
  | goto hx =>
    cases hx ▸ h
    exact .inl ⟨rfl, rfl, rfl, rfl, rfl, rfl, rfl⟩
  | halt hi hx =>
    cases hx ▸ h
    exact .inr (.inl ⟨hi, rfl⟩)
  | miller rd rs1 rs2 hi hx =>
    subst hi
    obtain ⟨e, -, rfl⟩ | ⟨x, u, -, ⟨e, -, rfl⟩ | ⟨-, rfl⟩⟩ := execMiller_next (hx ▸ h)
    · exact .inr (.inr (traps_of_trap _ e s))
    · exact .inr (.inr (traps_of_trap_setMl rd rs1 rs2 e s u))
    · exact .inl ⟨rfl, rfl, rfl, rfl, rfl, rfl, rfl⟩

end Sys2Proof.Machine
end

section
/-! Both resets, from any state (70_reset_and_hazards.md R530 to R532). -/

namespace Sys2Proof.Machine

theorem ctrlWord_reset : ctrlWord State.reset = 0 := by decide

theorem statusWord_reset : statusWord State.reset = 0 := by decide

/-- The reset table says nothing of the memories, nor of the model's own fields. -/
theorem atReset_of_reset_with (m : Imem) (d : Dmem) (q : List HostAct) (w : Word) (n : Nat) :
    ({ State.reset with imem := m, dmem := d, hostQ := q, rdata := w, epoch := n } : State).atReset :=
  ⟨reset_reg, rfl, rfl, rfl, rfl, rfl, rfl, rfl, rfl, rfl, rfl, rfl, rfl, rfl, ctrlWord_reset, statusWord_reset, rfl⟩

theorem softReset_atReset (s : State) : (softReset s).atReset :=
  atReset_of_reset_with s.imem s.dmem s.hostQ s.rdata s.epoch

theorem powerOnReset_atReset (s : State) : (powerOnReset s).atReset :=
  atReset_of_reset_with [] [] s.hostQ s.rdata (s.epoch + 1)

theorem step_of_powerOn {s : State} {q : List HostAct} (h : s.hostQ = .powerOn :: q) :
    step s = .next (powerOnReset { s with hostQ := q }) := by rw [step, h]

theorem step_of_write {s : State} {q : List HostAct} {off : BitVec 15} {v : Word} (h : s.hostQ = .write off v :: q) :
    step s = .next (hostWrite off v { s with hostQ := q }) := by rw [step, h]

/-- A write of CTRL with SRESET is never refused and does nothing but the soft reset (60_exceptions.md R504). -/
theorem hostWrite_ctrl_sreset {v : Word} (hv : v.getLsbD 1 = true) (s : State) :
    hostWrite 0x004 v s = softReset s := by
  have hm : mmioOf 0x004 = .ctrl := by decide
  rw [hostWrite_eq, hm, if_neg (fun h => nomatch h.2), mmioWrite, writeCtrl, if_pos hv]
  rfl

/-- Settles O16: each reset is `State.reset` but for the memories and the model's own fields. -/
theorem resetValues : Obligations.ResetValues := by
  refine ⟨atReset_of_reset_with [] [] [] 0 0, fun _ => rfl, fun _ => rfl, fun s q => ⟨fun hq => ?_, fun v hv hq => ?_⟩⟩
  · exact ⟨_, step_of_powerOn hq, powerOnReset_atReset _, fun _ => rfl, fun _ => rfl⟩
  · refine ⟨softReset { s with hostQ := q }, ?_, softReset_atReset _, fun _ => rfl, fun _ => rfl⟩
    rw [step_of_write hq, hostWrite_ctrl_sreset hv]

end Sys2Proof.Machine
end

section
/-! What an instruction can do to the state, once for all 105 of them, and so what none of them changes
(10_state.md R36, R37, R39, R41, 20_memory.md R85). -/

namespace Sys2Proof.Machine

/-! ## Operands that have been read -/

theorem asG1_eq_some {v : RegVal} {x : Form × G1} (h : asG1 v = some x) : v = ofG1 x.1 x.2 := by
  cases v <;> cases h <;> rfl

theorem asG2_eq_some {v : RegVal} {x : Form × G2} (h : asG2 v = some x) : v = ofG2 x.1 x.2 := by
  cases v <;> cases h <;> rfl

theorem asG1Aff_eq_some {v : RegVal} {p : G1} (h : asG1Aff v = some p) : v = .g1 p := by
  cases v <;> cases h; rfl

theorem asG1Jac_eq_some {v : RegVal} {p : G1} (h : asG1Jac v = some p) : v = .g1j p := by
  cases v <;> cases h; rfl

theorem asG2Aff_eq_some {v : RegVal} {q : G2} (h : asG2Aff v = some q) : v = .g2 q := by
  cases v <;> cases h; rfl

theorem asG2Jac_eq_some {v : RegVal} {q : G2} (h : asG2Jac v = some q) : v = .g2j q := by
  cases v <;> cases h; rfl

theorem src_eq_ok {α : Type} {s : State} {r : RegIdx} {want : RegVal → Option α} {a : α} (h : src s r want = .ok a) :
    want (s.reg r) = some a := by
  obtain ⟨-, he⟩ | ⟨-, -, he⟩ | ⟨a', -, ha, he⟩ := src_cases s r want <;> rw [he] at h <;> cases h
  exact ha

theorem srcs_eq_ok {α β : Type} {s : State} {r1 r2 : RegIdx} {want1 : RegVal → Option α} {want2 : RegVal → Option β}
    {x : α × β} (h : srcs s r1 want1 r2 want2 = .ok x) : want1 (s.reg r1) = some x.1 ∧ want2 (s.reg r2) = some x.2 := by
  obtain ⟨-, he⟩ | ⟨-, -, he⟩ | ⟨-, -, -, he⟩ | ⟨-, -, -, -, he⟩ | ⟨a, b, -, -, ha, hb, he⟩ :=
    srcs_cases s r1 want1 r2 want2 <;> rw [he] at h <;> cases h
  exact ⟨ha, hb⟩

theorem loadFrom_eq_ok {α : Type} {g n : Nat} {read : Nat → Except Exc α} {a : α} (h : loadFrom g n read = .ok a) :
    read g = .ok a := by
  rw [loadFrom_eq] at h
  split at h
  · exact h
  · cases h

/-! ## Effects -/

/-- Everything a store can do: write its operand's words inside DMEM, or raise. -/
theorem commitDmem_storeTo_next {α : Type} {s t : State} {g n : Nat} {rs1 : RegIdx} {want : RegVal → Option α}
    {words : α → List Nat} (h : commitDmem (storeTo s g rs1 want n words) s = .next t) :
    (∃ a, g + n ≤ Config.granules ∧ t = (s.setDmem (setWords s.dmem g (words a))).advance) ∨
      ∃ e, t = trap e s := by
  obtain ⟨m, hm, rfl⟩ | ⟨e, -, rfl⟩ := commitDmem_next h
  · rw [storeTo_eq] at hm
    split at hm
    · cases hm
    · next a _ =>
      split at hm
      · next hg =>
        cases hm
        exact .inl ⟨a, hg, rfl⟩
      · cases hm
  · exact .inr ⟨e, rfl⟩

/-- The states an instruction can lead to: one write of those `accessOf` lists, with the next PC; HALT's; the trap
entry; or MILLER's, which keeps the Miller unit also where it raises (00_scope.md R13). -/
inductive Effect (i : Instr) (s : State) : State → Prop where
  | reg (rd : RegIdx) (v : RegVal) (hdest : (accessOf i).dest = some rd) : Effect i s (s.setReg rd v).advance
  | flag (b : Bool) (hflag : (accessOf i).flag = true) : Effect i s (s.setFlag b).advance
  | store (g : Imm9) (ws : List Nat) (hstored : (accessOf i).stored = some (g, ws.length))
      (hg : g.toNat + ws.length ≤ Config.granules) : Effect i s (s.setDmem (setWords s.dmem g.toNat ws)).advance
  | ml (u : Miller) (hml : (accessOf i).miller = true) : Effect i s (s.setMl u).advance
  | goto : Effect i s (s.goto (nextPc i s))
  | halt : Effect i s { s.advance with run := .halted, irqPend := true }
  | trap (e : Exc) : Effect i s (trap e s)
  | miller (rd : RegIdx) (v : RegVal) (u : Miller) (hdest : (accessOf i).dest = some rd)
      (hml : (accessOf i).miller = true) : Effect i s ((s.setMl u).setReg rd v).advance
  | millerTrap (e : Exc) (u : Miller) (hml : (accessOf i).miller = true) : Effect i s (Machine.trap e (s.setMl u))

/-- Every instruction has one of these effects. -/
theorem exec_effect {i : Instr} {s t : State} (h : exec i s = .next t) : Effect i s t := by
  cases exec_commits i s with
  | reg rd r hdest _ hx =>
    obtain ⟨v, -, rfl⟩ | ⟨e, -, rfl⟩ := commitReg_next (hx ▸ h)
    · exact .reg rd v hdest
    · exact .trap e
  | flag r hflag _ hx =>
    obtain ⟨b, -, rfl⟩ | ⟨e, -, rfl⟩ := commitFlag_next (hx ▸ h)
    · exact .flag b hflag
    · exact .trap e
  | store g rs1 want n words hstored hlen _ hx =>
    obtain ⟨a, hg, rfl⟩ | ⟨e, rfl⟩ := commitDmem_storeTo_next (hx ▸ h)
    · exact .store g (words a) (by rw [hlen, hstored]) (by rwa [hlen])
    · exact .trap e
  | ml r hml _ hx =>
    obtain ⟨u, -, rfl⟩ | ⟨e, -, rfl⟩ := commitMl_next (hx ▸ h)
    · exact .ml u hml
    · exact .trap e
  | goto hx =>
    cases hx ▸ h
    exact .goto
  | halt _ hx =>
    cases hx ▸ h
    exact .halt
  | miller rd rs1 rs2 hi hx =>
    subst hi
    obtain ⟨e, -, rfl⟩ | ⟨x, u, -, ⟨e, -, rfl⟩ | ⟨-, rfl⟩⟩ := execMiller_next (hx ▸ h)
    · exact .trap e
    · exact .millerTrap e u rfl
    · exact .miller rd _ u rfl rfl

/-! ## The frames -/

/-- Settles O8: each effect writes a register, FLAG or the Miller unit only where `accessOf` lists it. -/
theorem frameRegistersFlagMiller : Obligations.FrameRegistersFlagMiller := by
  intro i s t h
  cases exec_effect h with
  | reg rd v hdest =>
    exact ⟨fun r hne => reg_setReg_ne s v fun e => hne (e ▸ hdest), fun _ => rfl, fun _ => rfl⟩
  | flag b hflag => exact ⟨fun _ _ => rfl, fun hno => absurd hflag (by simp [hno]), fun _ => rfl⟩
  | ml u hml => exact ⟨fun _ _ => rfl, fun _ => rfl, fun hno => absurd hml (by simp [hno])⟩
  | miller rd v u hdest hml =>
    exact ⟨fun r hne => reg_setReg_ne (s.setMl u) v fun e => hne (e ▸ hdest), fun _ => rfl,
      fun hno => absurd hml (by simp [hno])⟩
  | millerTrap e u hml => exact ⟨fun _ _ => rfl, fun _ => rfl, fun hno => absurd hml (by simp [hno])⟩
  | store | goto | halt | trap => exact ⟨fun _ _ => rfl, fun _ => rfl, fun _ => rfl⟩

/-- DMEM after an instruction: as before, or with the words of a store whose granules lie inside DMEM. -/
theorem exec_dmem {i : Instr} {s t : State} (h : exec i s = .next t) :
    t.dmem = s.dmem ∨ ∃ (g : Imm9) (ws : List Nat), (accessOf i).stored = some (g, ws.length) ∧
      g.toNat + ws.length ≤ Config.granules ∧ t.dmem = setWords s.dmem g.toNat ws := by
  cases exec_effect h with
  | store g ws hstored hg => exact .inr ⟨g, ws, hstored, hg, rfl⟩
  | reg | flag | ml | goto | halt | trap | miller | millerTrap => exact .inl rfl

/-- No instruction writes IMEM, IRQ_EN, HOSTERR or the model's own fields. -/
theorem exec_hostSide {i : Instr} {s t : State} (h : exec i s = .next t) :
    t.imem = s.imem ∧ t.irqEn = s.irqEn ∧ t.hostErr = s.hostErr ∧ t.hostQ = s.hostQ ∧ t.rdata = s.rdata ∧
      t.epoch = s.epoch := by
  cases exec_effect h <;> exact ⟨rfl, rfl, rfl, rfl, rfl, rfl⟩

/-- A byte reads alike where the written cells and the free power-on contents are the same. -/
theorem readByte_congr {s t : State} (hd : t.dmem = s.dmem) (he : t.epoch = s.epoch) (a : Nat) :
    readByte t a = readByte s a := by rw [readByte, readByte, hd, he]

theorem imemWord_congr {s t : State} (hi : t.imem = s.imem) (he : t.epoch = s.epoch) (k : Nat) :
    imemWord t k = imemWord s k := by rw [imemWord, imemWord, hi, he]

/-- Settles O9: DMEM changes by a store to `accessOf`'s granules only, and nothing else here by any instruction. -/
theorem frameMemoryAndHost : Obligations.FrameMemoryAndHost := by
  intro i s t h
  obtain ⟨himem, hirqEn, hhostErr, hhostQ, hrdata, hepoch⟩ := exec_hostSide h
  refine ⟨fun hnone a => ?_, fun g n hstored a ha => ?_, imemWord_congr himem hepoch,
    hirqEn, hhostErr, hhostQ, hrdata, hepoch⟩
  · obtain hd | ⟨g, ws, hstored, -, -⟩ := exec_dmem h
    · exact readByte_congr hd hepoch a
    · rw [hnone] at hstored
      cases hstored
  · obtain hd | ⟨g', ws, hstored', -, hd⟩ := exec_dmem h
    · exact readByte_congr hd hepoch a
    · rw [hstored] at hstored'
      cases hstored'
      calc readByte t a = readByte (s.setDmem (setWords s.dmem g.toNat ws)) a :=
          readByte_congr (s := s.setDmem _) hd hepoch a
        _ = readByte s a := readByte_setWords ws s g.toNat a ha

end Sys2Proof.Machine
end

section
/-! The host's window (60_exceptions.md R500): which offset names what. -/

namespace Sys2Proof.Machine

/-- What the word offset `w` of the window names, read a second time from R500. -/
def WordOffset (w : Nat) : Mmio → Prop
  | .id => w = 0
  | .ctrl => w = 1
  | .status => w = 2
  | .cause => w = 3
  | .fpc => w = 4
  | .finsn => w = 5
  | .pc => w = 6
  | .finfo => w = 7
  | .imem k => k < 512 ∧ w = 0x400 + k
  | .dmem k => w = 0x1000 + k
  | .reserved => (8 ≤ w ∧ w < 0x400) ∨ (0x600 ≤ w ∧ w < 0x1000)

/-- Above the registers the window holds IMEM, a gap and DMEM. -/
theorem mmioOf_of_high {off : BitVec 15} (h : 8 ≤ off.toNat / 4) :
    mmioOf off = if 0x400 ≤ off.toNat / 4 ∧ off.toNat / 4 < 0x600 then .imem (off.toNat / 4 - 0x400)
      else if 0x1000 ≤ off.toNat / 4 then .dmem (off.toNat / 4 - 0x1000) else .reserved := by
  rw [mmioOf]
  generalize off.toNat / 4 = w at h
  have hreg : ∀ n < 8, w ≠ n := fun n hn => by omega
  simp only [hreg, Nat.reduceLT, if_false]

theorem wordOffset_mmioOf (off : BitVec 15) : WordOffset (off.toNat / 4) (mmioOf off) := by
  by_cases hhigh : 8 ≤ off.toNat / 4
  · rw [mmioOf_of_high hhigh]
    split_ifs <;> simp only [WordOffset] <;> omega
  · rw [mmioOf]
    generalize off.toNat / 4 = w at hhigh
    interval_cases w <;> rfl

theorem mmioOf_eq_of_wordOffset {off : BitVec 15} {m : Mmio} (h : WordOffset (off.toNat / 4) m) : mmioOf off = m := by
  cases m with
  | imem k =>
    obtain ⟨hk, hw⟩ := h
    rw [mmioOf_of_high (by omega), hw, if_pos (by omega), Nat.add_sub_cancel_left]
  | dmem k =>
    have hw : off.toNat / 4 = 0x1000 + k := h
    rw [mmioOf_of_high (by omega), hw, if_neg (by omega), if_pos (by omega), Nat.add_sub_cancel_left]
  | reserved =>
    simp only [WordOffset] at h
    rw [mmioOf_of_high (by omega), if_neg (by omega), if_neg (by omega)]
  | id | ctrl | status | cause | fpc | finsn | pc | finfo =>
    rw [mmioOf, show off.toNat / 4 = _ from h]
    rfl

/-- The window, word offset by word offset. -/
theorem mmioOf_eq_iff (off : BitVec 15) (m : Mmio) : mmioOf off = m ↔ WordOffset (off.toNat / 4) m :=
  ⟨fun h => h ▸ wordOffset_mmioOf off, mmioOf_eq_of_wordOffset⟩

/-- The guarded part of the window is the one R502 lists. -/
theorem guarded_mmioOf_iff (off : BitVec 15) : (mmioOf off).guarded = true ↔ refusedWhileBusy off := by
  have h := wordOffset_mmioOf off
  rw [refusedWhileBusy]
  generalize mmioOf off = m at h ⊢
  cases m with
  | pc | imem | dmem =>
    simp only [WordOffset] at h
    exact iff_of_true rfl (by omega)
  | id | ctrl | status | cause | fpc | finsn | finfo | reserved =>
    simp only [WordOffset] at h
    exact iff_of_false nofun (by omega)

/-! ## Accesses of the host as steps -/

theorem step_of_read {s : State} {q : List HostAct} {off : BitVec 15} (h : s.hostQ = .read off :: q) :
    step s = .next (hostRead off { s with hostQ := q }) := by rw [step, h]

theorem hostRead_refused {off : BitVec 15} {s : State} (hbusy : s.run = .busy) (hoff : refusedWhileBusy off) :
    hostRead off s = { s with rdata := 0, hostErr := true } := by
  rw [hostRead_eq, if_pos ⟨hbusy, (guarded_mmioOf_iff off).2 hoff⟩]

theorem hostWrite_refused {off : BitVec 15} {v : Word} {s : State} (hbusy : s.run = .busy)
    (hoff : refusedWhileBusy off) : hostWrite off v s = { s with hostErr := true } := by
  rw [hostWrite_eq, if_pos ⟨hbusy, (guarded_mmioOf_iff off).2 hoff⟩]

/-- Settles O55: the guarded offsets are those of R502. -/
theorem hostRefusedWhileBusy : Obligations.HostRefusedWhileBusy := by
  intro s off q hbusy hoff
  refine ⟨fun hq => ?_, fun v hq => ?_⟩
  · exact (step_of_read hq).trans (congrArg _ (hostRead_refused hbusy hoff))
  · exact (step_of_write hq).trans (congrArg _ (hostWrite_refused hbusy hoff))

theorem hostRead_of_served {off : BitVec 15} {s : State} (h : ¬ (s.run = .busy ∧ refusedWhileBusy off)) :
    hostRead off s = { s with rdata := mmioRead s (mmioOf off) } := by
  rw [← guarded_mmioOf_iff] at h
  rw [hostRead_eq, if_neg h]

theorem hostWrite_of_served {off : BitVec 15} {v : Word} {s : State} (h : ¬ (s.run = .busy ∧ refusedWhileBusy off)) :
    hostWrite off v s = mmioWrite v s (mmioOf off) := by
  rw [← guarded_mmioOf_iff] at h
  rw [hostWrite_eq, if_neg h]

/-! ## CTRL -/

/-- CTRL is never refused. -/
theorem hostWrite_ctrl {off : BitVec 15} (v : Word) (s : State) (hoff : off.toNat / 4 = 1) :
    hostWrite off v s = writeCtrl v s := by
  have hm : mmioOf off = .ctrl := (mmioOf_eq_iff off .ctrl).2 hoff
  rw [hostWrite_eq, hm]
  exact if_neg (fun h => nomatch h.2)

/-- Settles O58, by the order of R504 and the two cases of START (R503). -/
theorem hostCtrlWrites : Obligations.HostCtrlWrites := by
  intro s off v q hq hoff hsreset
  rw [step_of_write hq, hostWrite_ctrl v _ hoff, writeCtrl, if_neg (ne_true_of_eq_false hsreset)]
  refine ⟨fun hstart => ?_, fun hstart hbusy => ?_, fun hstart hidle => ?_⟩
  · rw [if_neg (ne_true_of_eq_false hstart)]
  · rw [if_pos hstart, startEngine, if_pos hbusy]
  · rw [if_pos hstart, startEngine, if_neg hidle]

/-! ## What a served read returns -/

/-- The value of two bit vectors written side by side. -/
theorem toNat_append_eq {m n : Nat} (x : BitVec m) (y : BitVec n) :
    (x ++ y).toNat = x.toNat * 2 ^ n + y.toNat := by
  rw [BitVec.toNat_append, ← Nat.shiftLeft_add_eq_or_of_lt y.isLt, Nat.shiftLeft_eq]

theorem RunState.code_lt (r : RunState) : r.code < 4 := by cases r <;> decide
theorem MlState.code_lt (st : MlState) : st.code < 8 := by cases st <;> decide

/-- STATUS's fields (10_state.md R46). -/
theorem toNat_statusWord (s : State) : (statusWord s).toNat =
    s.run.code + 4 * s.flag.toNat + 8 * s.irqPend.toNat + 16 * s.hostErr.toNat + 32 * s.ml.st.code := by
  have hrun := s.run.code_lt
  have hml := s.ml.st.code_lt
  simp only [statusWord, toNat_append_eq, BitVec.toNat_ofBool, BitVec.toNat_ofNat]
  rw [Nat.mod_eq_of_lt (show s.run.code < 2 ^ 2 from hrun), Nat.mod_eq_of_lt (show s.ml.st.code < 2 ^ 3 from hml)]
  omega

theorem toNat_ctrlWord (s : State) : (ctrlWord s).toNat = 4 * s.irqEn.toNat := by
  simp only [ctrlWord, toNat_append_eq, BitVec.toNat_ofBool, BitVec.toNat_ofNat]
  omega

/-! ## DMEM as host words -/

theorem beValue_append (xs ys : List Byte) : beValue (xs ++ ys) = beValue xs * 256 ^ ys.length + beValue ys := by
  rw [beValue, List.foldl_append, beValue_foldl]
  rfl

theorem readBytes_add (s : State) (a m n : Nat) : readBytes s a (m + n) = readBytes s a m ++ readBytes s (a + m) n := by
  simp only [readBytes, List.range_add, List.map_append, List.map_map]
  congr 1
  exact List.map_congr_left fun i _ => congrArg (readByte s) (Nat.add_assoc a m i).symm

theorem toNat_dmemHostWord (s : State) (k : Nat) : (dmemHostWord s k).toNat = beValue (readBytes s (4 * k) 4) := by
  have hlt := beValue_lt (readBytes s (4 * k) 4)
  rw [length_readBytes] at hlt
  rw [dmemHostWord, BitVec.toNat_ofNat, Nat.mod_eq_of_lt (lt_of_lt_of_eq hlt (by norm_num))]

/-- A host word of DMEM is its four bytes, most significant first (20_memory.md R83). -/
theorem toNat_dmemHostWord_eq_bytes (s : State) (k : Nat) : (dmemHostWord s k).toNat =
    (readByte s (4 * k)).toNat * 2 ^ 24 + (readByte s (4 * k + 1)).toNat * 2 ^ 16 +
      (readByte s (4 * k + 2)).toNat * 2 ^ 8 + (readByte s (4 * k + 3)).toNat := by
  have hbytes : readBytes s (4 * k) 4 =
      [readByte s (4 * k), readByte s (4 * k + 1), readByte s (4 * k + 2), readByte s (4 * k + 3)] := rfl
  simp only [toNat_dmemHostWord, hbytes, beValue_cons, List.length_cons, List.length_nil]
  have hnil : beValue [] = 0 := rfl
  omega

/-- The bytes of consecutive host words, as one big-endian value. -/
theorem beValue_readBytes_hostWords (s : State) (k n : Nat) : beValue (readBytes s (4 * k) (4 * n)) =
    ((List.range n).map fun j => (dmemHostWord s (k + j)).toNat * 2 ^ (32 * (n - 1 - j))).sum := by
  induction n with
  | zero => rfl
  | succ n ih =>
    have hshift : ∀ j ∈ List.range n, (dmemHostWord s (k + j)).toNat * 2 ^ (32 * (n + 1 - 1 - j)) =
        (dmemHostWord s (k + j)).toNat * 2 ^ (32 * (n - 1 - j)) * 256 ^ 4 := by
      intro j hj
      have hj := List.mem_range.1 hj
      rw [Nat.mul_assoc, show (256 : Nat) ^ 4 = 2 ^ 32 from rfl, ← Nat.pow_add]
      congr 2
      omega
    calc beValue (readBytes s (4 * k) (4 * (n + 1)))
        = beValue (readBytes s (4 * k) (4 * n)) * 256 ^ 4 + beValue (readBytes s (4 * (k + n)) 4) := by
          rw [Nat.mul_add, readBytes_add, beValue_append, length_readBytes, ← Nat.mul_add]
      _ = _ := by
          rw [ih, ← toNat_dmemHostWord, List.range_succ, List.map_append, List.sum_append,
            List.map_congr_left hshift, List.sum_map_mul_right]
          simp

/-- A granule is its eight host words (20_memory.md R83). -/
theorem word_eq_hostWords (s : State) (g : Nat) : word s g =
    ((List.range 8).map fun j => (dmemHostWord s (8 * g + j)).toNat * 2 ^ (32 * (7 - j))).sum := by
  rw [word, show 32 * g = 4 * (8 * g) by omega]
  exact beValue_readBytes_hostWords s (8 * g) 8

/-- Settles O56: a served read returns what its word offset names. -/
theorem hostReads : Obligations.HostReads := by
  refine ⟨fun s off q hq hserved => ⟨mmioRead s (mmioOf off), ?_, ?_⟩, word_eq_hostWords⟩
  · exact (step_of_read hq).trans (congrArg _ (hostRead_of_served hserved))
  have hread : ∀ m, WordOffset (off.toNat / 4) m → mmioRead s (mmioOf off) = mmioRead s m :=
    fun m hm => by rw [mmioOf_eq_of_wordOffset hm]
  refine ⟨fun h => hread .id h, fun h => ?_, fun h => ?_, fun h => ?_, fun h => ?_, fun h => hread .finsn h,
    fun h => ?_, fun h => hread .finfo h, fun k hk h => hread (.imem k) ⟨hk, h⟩, fun k _ h => ?_,
    fun h h' => hread .reserved ?_, fun h h' => hread .reserved ?_⟩
  · rw [hread .ctrl h]
    exact toNat_ctrlWord s
  · rw [hread .status h]
    exact toNat_statusWord s
  · rw [hread .cause h]
    exact BitVec.toNat_setWidth_of_le (by decide)
  · rw [hread .fpc h]
    exact BitVec.toNat_setWidth_of_le (by decide)
  · rw [hread .pc h]
    exact BitVec.toNat_setWidth_of_le (by decide)
  · rw [hread (.dmem k) h]
    exact toNat_dmemHostWord_eq_bytes s k
  · simp only [WordOffset]
    omega
  · simp only [WordOffset]
    omega

/-! ## What a served write does -/

theorem imemWord_set (s : State) (k j : Nat) (v : Word) :
    imemWord { s with imem := Memory.set s.imem k v } j = if j = k then v else imemWord s j := by
  by_cases h : j = k
  · subst h
    simp [imemWord]
  · simp [imemWord, Memory.get?_set_ne s.imem v h, h]

theorem getElem?_beBytes {n i : Nat} (v : Nat) (hi : i < n) :
    (beBytes n v)[i]? = some (BitVec.ofNat 8 (v / 256 ^ (n - 1 - i))) := by
  induction n generalizing i with
  | zero => omega
  | succ n ih =>
    cases i with
    | zero => rfl
    | succ i =>
      rw [beBytes, List.getElem?_cons_succ, ih (by omega)]
      congr 4
      omega

theorem readByte_setDmemHostWord (s : State) (k a : Nat) (v : Word) :
    readByte { s with dmem := setDmemHostWord s.dmem k v } a =
      if 4 * k ≤ a ∧ a < 4 * k + 4 then BitVec.ofNat 8 (v.toNat / 256 ^ (3 - (a - 4 * k))) else readByte s a := by
  simp only [readByte, setDmemHostWord, Memory.get?_setMany, length_beBytes]
  by_cases ha : 4 * k ≤ a ∧ a < 4 * k + 4
  · rw [if_pos ha, if_pos ha, getElem?_beBytes v.toNat (by omega)]
  · rw [if_neg ha, if_neg ha]

theorem writeStatus_eq (v : Word) (s : State) : writeStatus v s = { s with
    irqPend := if v.getLsbD 3 = true then false else s.irqPend
    hostErr := if v.getLsbD 4 = true then false else s.hostErr } := by
  have hclear : ∀ b c : Bool, (b && !c) = if c = true then false else b := by decide
  rw [writeStatus, hclear, hclear]

/-- Settles O57: a served write does what its word offset names. -/
theorem hostWritesByOffset : Obligations.HostWrites := by
  intro s off v q hq hserved
  have hstep : ∀ m, WordOffset (off.toNat / 4) m → step s = .next (mmioWrite v { s with hostQ := q } m) := by
    intro m hm
    rw [← mmioOf_eq_of_wordOffset hm]
    exact (step_of_write hq).trans (congrArg _ (hostWrite_of_served hserved))
  refine ⟨fun h => ?_, fun h => ?_, fun k hk h => ?_, fun k _ h => ?_, ?_⟩
  · rw [hstep .status h, mmioWrite, writeStatus_eq]
  · rw [hstep .pc h]
    rfl
  · exact ⟨_, hstep (.imem k) ⟨hk, h⟩, fun j => imemWord_set s k j v⟩
  · exact ⟨_, hstep (.dmem k) h, fun a => readByte_setDmemHostWord s k a v⟩
  · rintro (h | h | h | h | h | h | h)
    · exact hstep .id h
    · exact hstep .cause h
    · exact hstep .fpc h
    · exact hstep .finsn h
    · exact hstep .finfo h
    · exact hstep .reserved (by simp only [WordOffset]; omega)
    · exact hstep .reserved (by simp only [WordOffset]; omega)

end Sys2Proof.Machine
end

section
/-! What an access of the host can do to the state; and the invariants of the memories, of the Miller unit and of the
status registers, which hold at reset and which every step keeps (10_state.md R39, R40, 48_pairing.md R425 to R429,
60_exceptions.md R492, R500 to R504). -/

namespace Sys2Proof.Machine

/-! ## The host's accesses -/

/-- A host read leaves everything alone but HOSTERR and the word read. -/
theorem hostRead_frame (off : BitVec 15) (s : State) :
    ∃ (w : Word) (b : Bool), hostRead off s = { s with rdata := w, hostErr := b } := by
  rw [hostRead_eq]
  split
  · exact ⟨0, true, rfl⟩
  · exact ⟨mmioRead s (mmioOf off), s.hostErr, rfl⟩

/-- The states a host write of `v` at `off` can lead to (60_exceptions.md R500 to R504). -/
inductive HostEffect (off : BitVec 15) (v : Word) (s : State) : State → Prop where
  | ignored : HostEffect off v s s
  | refused : HostEffect off v s { s with hostErr := true }
  | sreset (hoff : off.toNat / 4 = 1) (hv : v.getLsbD 1 = true) : HostEffect off v s (softReset s)
  | startRefused : HostEffect off v s { s with irqEn := v.getLsbD 2, hostErr := true }
  | start : HostEffect off v s
      { s with irqEn := v.getLsbD 2, run := .busy, cause := 0, fpc := 0, finsn := 0, finfo := 0 }
  | irqEn : HostEffect off v s { s with irqEn := v.getLsbD 2 }
  | status (hoff : off.toNat / 4 = 2) : HostEffect off v s (writeStatus v s)
  | pc : HostEffect off v s { s with pc := v.setWidth 10 }
  | imem (k : Nat) (hk : k < Config.imemWords) : HostEffect off v s { s with imem := Memory.set s.imem k v }
  | dmem (k : Nat) (hk : 4 * k + 4 ≤ Config.dmemBytes) :
      HostEffect off v s { s with dmem := setDmemHostWord s.dmem k v }

theorem writeCtrl_effect {off : BitVec 15} (v : Word) (s : State) (hoff : off.toNat / 4 = 1) :
    HostEffect off v s (writeCtrl v s) := by
  simp only [writeCtrl, startEngine]
  split
  · next hv => exact .sreset hoff hv
  · split
    · split
      · exact .startRefused
      · exact .start
    · exact .irqEn

/-- Every host write has one of these effects. -/
theorem hostWrite_effect (off : BitVec 15) (v : Word) (s : State) : HostEffect off v s (hostWrite off v s) := by
  rw [hostWrite_eq]
  split
  · exact .refused
  · cases hm : mmioOf off with
    | ctrl => exact writeCtrl_effect v s ((mmioOf_eq_iff off _).1 hm)
    | status => exact .status ((mmioOf_eq_iff off _).1 hm)
    | pc => exact .pc
    | imem k =>
      obtain ⟨hk, -⟩ := (mmioOf_eq_iff off (.imem k)).1 hm
      exact .imem k hk
    | dmem k =>
      have hk : off.toNat / 4 = 0x1000 + k := (mmioOf_eq_iff off _).1 hm
      exact .dmem k (by simp only [Config.dmemBytes]; omega)
    | id | cause | fpc | finsn | finfo | reserved => exact .ignored

/-! ## A step keeps what each of its parts keeps -/

/-- What an invariant must withstand: dropping the head of the host's queue, an instruction, a trap taken by the fetch,
an access of the host and the reset input. -/
structure KeptByParts (I : State → Prop) : Prop where
  queue : ∀ s q, I s → I { s with hostQ := q }
  exec : ∀ i s t, s.run = .busy → exec i s = .next t → I s → I t
  trap : ∀ e s, I s → I (trap e s)
  read : ∀ s w b, I s → I { s with rdata := w, hostErr := b }
  write : ∀ off v s t, HostEffect off v s t → I s → I t
  powerOn : ∀ s, I (powerOnReset s)

theorem KeptByParts.engineStep {I : State → Prop} (hI : KeptByParts I) {s t : State} (h : engineStep s = .next t)
    (hs : I s) : I t := by
  obtain ⟨-, rfl⟩ | ⟨-, e, -, rfl⟩ | ⟨hbusy, i, -, hx⟩ := engineStep_cases h
  · exact hs
  · exact hI.trap e s hs
  · exact hI.exec i s t hbusy hx hs

theorem KeptByParts.step {I : State → Prop} (hI : KeptByParts I) {s t : State} (h : step s = .next t)
    (hs : I s) : I t := by
  obtain ⟨-, hx⟩ | ⟨q, ⟨-, hx⟩ | ⟨off, -, rfl⟩ | ⟨off, v, -, rfl⟩ | ⟨-, rfl⟩⟩ := step_cases h
  · exact hI.engineStep hx hs
  · exact hI.engineStep hx (hI.queue s q hs)
  · obtain ⟨w, b, hr⟩ := hostRead_frame off { s with hostQ := q }
    rw [hr]
    exact hI.read _ w b (hI.queue s q hs)
  · exact hI.write off v _ _ (hostWrite_effect off v _) (hI.queue s q hs)
  · exact hI.powerOn _

/-! ## Memories -/

theorem memoriesCanonical_keptByParts : KeptByParts State.memoriesCanonical where
  queue _ _ hs := hs
  exec i s t _ h hs := by
    obtain ⟨himem, hdmem⟩ := hs
    obtain ⟨hi, -⟩ := exec_hostSide h
    rw [State.memoriesCanonical, hi]
    obtain hd | ⟨g, ws, -, hg, hd⟩ := exec_dmem h
    · exact ⟨himem, by rwa [hd]⟩
    · exact ⟨himem, by rw [hd]; exact wf_setWords ws hg hdmem⟩
  trap _ _ hs := hs
  read _ _ _ hs := hs
  write off v s t h hs := by
    obtain ⟨himem, hdmem⟩ := hs
    cases h with
    | imem k hk => exact ⟨Memory.wf_set v hk himem, hdmem⟩
    | dmem k hk => exact ⟨himem, Memory.wf_setMany _ (by rwa [length_beBytes]) hdmem⟩
    | _ => exact ⟨himem, hdmem⟩
  powerOn _ := reset_memories_wf

/-- Settles O12: every part of a step writes inside the memories only, and such a write keeps the canonical form. -/
theorem stepKeepsMemoriesCanonical : Obligations.StepKeepsMemoriesCanonical :=
  fun _ _ hs h => memoriesCanonical_keptByParts.step h hs

/-! ## Where an instruction takes the Miller unit -/

/-- What every completed Miller step keeps, a run of them keeps, also one that ends in an exception. -/
theorem millerLoop_keeps {I : Miller → Prop} (hstep : ∀ u v, millerStep u = .ok v → I u → I v) (n : Nat) (u : Miller)
    (hu : I u) : I (millerLoop n u).1 := by
  induction n generalizing u with
  | zero => exact hu
  | succ n ih =>
    rw [millerLoop]
    split
    · exact hu
    · cases hv : millerStep u with
      | ok v => exact ih v (hstep u v hv hu)
      | error e => exact hu

/-- `u` comes from MLINIT of a G2 and a G1 point that stand in registers of `s`, by completed steps: none for MLINIT
itself, those of its loop for MILLER. -/
def FromMlinit (s : State) (u : Miller) : Prop :=
  ∃ (rs1 rs2 : RegIdx) (m n : Form) (q : G2) (p : G1) (k : Nat),
    s.reg rs1 = ofG2 m q ∧ s.reg rs2 = ofG1 n p ∧ u = (millerLoop k (millerInit q p)).1

theorem fromMlinit_of_srcs {s : State} {rs1 rs2 : RegIdx} {x : (Form × G2) × (Form × G1)}
    (h : srcs s rs1 asG2 rs2 asG1 = .ok x) (k : Nat) :
    FromMlinit s (millerLoop k (millerInit x.1.2 x.2.2)).1 := by
  obtain ⟨hq, hp⟩ := srcs_eq_ok h
  exact ⟨rs1, rs2, _, _, _, _, k, asG2_eq_some hq, asG1_eq_some hp, rfl⟩

theorem execMlinit_ml {rs1 rs2 : RegIdx} {s t : State} (h : execMlinit rs1 rs2 s = .next t) :
    t.ml = s.ml ∨ FromMlinit s t.ml := by
  obtain ⟨u, hu, rfl⟩ | ⟨e, -, rfl⟩ := commitMl_next h
  · cases hx : srcs s rs1 asG2 rs2 asG1 with
    | error e =>
      rw [hx] at hu
      cases hu
    | ok x =>
      rw [hx] at hu
      cases hu
      exact .inr (fromMlinit_of_srcs hx 0)
  · exact .inl rfl

theorem execMiller_ml {rd rs1 rs2 : RegIdx} {s t : State} (h : execMiller rd rs1 rs2 s = .next t) :
    t.ml = s.ml ∨ FromMlinit s t.ml := by
  obtain ⟨e, -, rfl⟩ | ⟨x, u, hx, hloop⟩ := execMiller_next h
  · exact .inl rfl
  · have hfrom := fromMlinit_of_srcs hx millerSteps
    obtain ⟨e, hl, rfl⟩ | ⟨hl, rfl⟩ := hloop <;> rw [hl] at hfrom <;> exact .inr hfrom

/-- The instructions of 10_state.md R41. -/
theorem miller_access {i : Instr} (h : (accessOf i).miller = true) :
    (∃ rs1 rs2, i = .mlinit rs1 rs2) ∨ i = .mlstep ∨ ∃ rd rs1 rs2, i = .miller rd rs1 rs2 := by
  cases i with
  | mlinit rs1 rs2 => exact .inl ⟨rs1, rs2, rfl⟩
  | mlstep => exact .inr (.inl rfl)
  | miller rd rs1 rs2 => exact .inr (.inr ⟨rd, rs1, rs2, rfl⟩)
  | _ => exact nomatch h

/-- The Miller unit after an instruction: as before, one completed step on, or a run from MLINIT. -/
theorem exec_ml {i : Instr} {s t : State} (h : exec i s = .next t) :
    t.ml = s.ml ∨ millerStep s.ml = .ok t.ml ∨ FromMlinit s t.ml := by
  by_cases hml : (accessOf i).miller = true
  · obtain ⟨rs1, rs2, rfl⟩ | rfl | ⟨rd, rs1, rs2, rfl⟩ := miller_access hml
    · exact (execMlinit_ml h).imp_right .inr
    · obtain ⟨u, hu, rfl⟩ | ⟨e, -, rfl⟩ := commitMl_next h
      · exact .inr (.inl hu)
      · exact .inl rfl
    · exact (execMiller_ml h).imp_right .inr
  · exact .inl ((frameRegistersFlagMiller i s t h).2.2 (by simpa using hml))

/-! ## The Miller unit's invariant -/

theorem millerStep_inProgressOk (u v : Miller) (h : millerStep u = .ok v) (hu : u.inProgressOk) : v.inProgressOk := by
  obtain ⟨hfin, hzero⟩ := hu
  obtain ⟨hq, hp, hst⟩ := millerStep_ok h
  rw [Miller.inProgressOk, hq, hp]
  obtain ⟨hu, -, hv, -⟩ | ⟨hu, hi, hv, hvi⟩ | ⟨hu, hv, hvi⟩ | ⟨hu, hv, -⟩ := hst
  · exact ⟨fun _ => hfin (.inl hu), by simp [hv]⟩
  · exact ⟨fun _ => hfin (.inl hu), fun _ => hvi.trans hi⟩
  · exact ⟨fun _ => hfin (.inr (.inl hu)), fun _ => hvi.trans (hzero (.inl hu))⟩
  · exact ⟨by simp [hv], by simp [hv]⟩

theorem millerInit_inProgressOk (q : G2) (p : G1) : (millerInit q p).inProgressOk := by
  by_cases hinf : p = .inf ∨ q = .inf
  · simp [Miller.inProgressOk, millerInit, hinf]
  · simp only [not_or] at hinf
    simp [Miller.inProgressOk, millerInit, hinf]

theorem reset_inProgressOk : State.reset.ml.inProgressOk := by
  simp [Miller.inProgressOk, State.reset, Miller.reset]

theorem inProgressOk_keptByParts : KeptByParts (·.ml.inProgressOk) where
  queue _ _ hs := hs
  exec i s t _ h hs := by
    obtain hml | hml | ⟨rs1, rs2, m, n, q, p, k, -, -, hml⟩ := exec_ml h
    · rwa [hml]
    · exact millerStep_inProgressOk _ _ hml hs
    · rw [hml]
      exact millerLoop_keeps millerStep_inProgressOk k _ (millerInit_inProgressOk q p)
  trap _ _ hs := hs
  read _ _ _ hs := hs
  write off v s t h hs := by
    cases h with
    | sreset => exact reset_inProgressOk
    | _ => exact hs
  powerOn _ := reset_inProgressOk

/-! ## The status registers' invariant -/

theorem reset_statusConsistent : State.reset.statusConsistent := by
  simp [State.statusConsistent, State.reset]

theorem trap_statusConsistent (e : Exc) (s : State) : (trap e s).statusConsistent :=
  ⟨fun _ => e.code_range, fun h => absurd rfl h⟩

theorem statusConsistent_keptByParts : KeptByParts State.statusConsistent where
  queue _ _ hs := hs
  exec i s t hbusy h hs := by
    cases exec_effect h with
    | trap e => exact trap_statusConsistent e s
    | millerTrap e u => exact trap_statusConsistent e (s.setMl u)
    | halt => exact ⟨nofun, fun _ => hs.2 (by simp [hbusy])⟩
    | reg | flag | store | ml | goto | miller => exact hs
  trap e s _ := trap_statusConsistent e s
  read _ _ _ hs := hs
  write off v s t h hs := by
    cases h with
    | sreset => exact reset_statusConsistent
    | start => exact ⟨nofun, fun _ => ⟨rfl, rfl, rfl, rfl⟩⟩
    | _ => exact hs
  powerOn _ := reset_statusConsistent

/-- Settles O14: each invariant is kept by every part of a step. -/
theorem stepKeepsMillerAndStatus : Obligations.StepKeepsMillerAndStatus :=
  fun _ _ h => ⟨inProgressOk_keptByParts.step h, statusConsistent_keptByParts.step h⟩

/-! ## Reset -/

theorem reset_pointsOnCurve : State.reset.pointsOnCurve :=
  ⟨fun r => by rw [reset_reg]; rfl, rfl, rfl, rfl⟩

/-- Settles O15: at reset the memories list nothing, no point is finite, ML_ST is IDLE and no exception is held. -/
theorem resetMeetsInvariants : Obligations.ResetMeetsInvariants :=
  ⟨reset_memories_wf, reset_pointsOnCurve, reset_inProgressOk, reset_statusConsistent⟩

end Sys2Proof.Machine
end

section
/-! When IRQ_PEND is set and when it is cleared (10_state.md R46, 60_exceptions.md R492, R496, R504, R512). -/

namespace Sys2Proof.Machine

/-- What leaving BUSY does: into HALTED with CAUSE as it was, into FAULT with a cause and PC held (R492, R512), and
IRQ_PEND set either way (R496). -/
def LeavesBusyWithIrq (s t : State) : Prop :=
  t.run = .halted ∨ t.run = .fault → t.irqPend = true ∧ (t.run = .halted → t.cause = s.cause) ∧
    (t.run = .fault → t.cause ≠ 0 ∧ t.pc = t.fpc)

theorem Exc.code_ne_zero (e : Exc) : e.code ≠ 0 := by
  intro h
  have hrange := e.code_range
  simp [h] at hrange

theorem trap_leavesBusyWithIrq (e : Exc) (s s' : State) : LeavesBusyWithIrq s (trap e s') :=
  fun _ => ⟨rfl, nofun, fun _ => ⟨e.code_ne_zero, rfl⟩⟩

/-- A BUSY state that stays BUSY has not left it. -/
theorem leavesBusyWithIrq_of_busy {s t : State} (h : t.run = .busy) : LeavesBusyWithIrq s t := by
  rintro (h' | h') <;> rw [h] at h' <;> cases h'

/-- IRQ_PEND and STATE over a cycle of the engine. -/
theorem engineStep_irqPend {s t : State} (h : engineStep s = .next t) :
    (t.irqPend = s.irqPend ∨ (s.run = .busy ∧ t.irqPend = true ∧ (t.run = .halted ∨ t.run = .fault))) ∧
    (s.run = .busy → LeavesBusyWithIrq s t) := by
  obtain ⟨hidle, rfl⟩ | ⟨hbusy, e, -, rfl⟩ | ⟨hbusy, i, -, hx⟩ := engineStep_cases h
  · exact ⟨.inl rfl, fun hbusy => absurd hbusy hidle⟩
  · exact ⟨.inr ⟨hbusy, rfl, .inr rfl⟩, fun _ => trap_leavesBusyWithIrq e s s⟩
  · cases exec_effect hx with
    | trap e => exact ⟨.inr ⟨hbusy, rfl, .inr rfl⟩, fun _ => trap_leavesBusyWithIrq e s s⟩
    | millerTrap e u => exact ⟨.inr ⟨hbusy, rfl, .inr rfl⟩, fun _ => trap_leavesBusyWithIrq e s (s.setMl u)⟩
    | halt => exact ⟨.inr ⟨hbusy, rfl, .inl rfl⟩, fun _ _ => ⟨rfl, fun _ => rfl, nofun⟩⟩
    | reg | flag | store | ml | goto | miller => exact ⟨.inl rfl, fun _ => leavesBusyWithIrq_of_busy hbusy⟩

/-- IRQ_PEND and STATE over a host write: at most a 1 in STATUS bit 3 or in SRESET clears IRQ_PEND, and BUSY is left
only for IDLE. -/
theorem hostEffect_irqPend {off : BitVec 15} {v : Word} {s t : State} (h : HostEffect off v s t) :
    (t.irqPend = s.irqPend ∨ (t.irqPend = false ∧
      ((off.toNat / 4 = 2 ∧ v.getLsbD 3 = true) ∨ (off.toNat / 4 = 1 ∧ v.getLsbD 1 = true)))) ∧
    (s.run = .busy → LeavesBusyWithIrq s t) := by
  cases h with
  | sreset hoff hv => exact ⟨.inr ⟨rfl, .inr ⟨hoff, hv⟩⟩, fun _ => nofun⟩
  | status hoff =>
    refine ⟨?_, fun hbusy => leavesBusyWithIrq_of_busy hbusy⟩
    cases hv : v.getLsbD 3 with
    | true => exact .inr ⟨by simp only [writeStatus, hv, Bool.not_true, Bool.and_false], .inl ⟨hoff, rfl⟩⟩
    | false => exact .inl (by simp only [writeStatus, hv, Bool.not_false, Bool.and_true])
  | start => exact ⟨.inl rfl, fun _ => nofun⟩
  | ignored | refused | startRefused | irqEn | pc | imem | dmem =>
    exact ⟨.inl rfl, fun hbusy => leavesBusyWithIrq_of_busy hbusy⟩

/-- The actions that clear IRQ_PEND: the reset input, and the two host writes of R496. -/
def HeadClearsIrq (s : State) : Prop :=
  (∃ q, s.hostQ = .powerOn :: q) ∨
  ∃ off v q, s.hostQ = .write off v :: q ∧
    ((off.toNat / 4 = 2 ∧ v.getLsbD 3 = true) ∨ (off.toNat / 4 = 1 ∧ v.getLsbD 1 = true))

/-- IRQ_PEND and STATE over a step: IRQ_PEND stays, is set by leaving BUSY, or is cleared by the host or a reset. -/
theorem step_irqPend {s t : State} (h : step s = .next t) :
    (t.irqPend = s.irqPend ∨ (s.run = .busy ∧ t.irqPend = true ∧ (t.run = .halted ∨ t.run = .fault)) ∨
      (t.irqPend = false ∧ HeadClearsIrq s)) ∧
    (s.run = .busy → LeavesBusyWithIrq s t) := by
  obtain ⟨-, hx⟩ | ⟨q, ⟨-, hx⟩ | ⟨off, -, rfl⟩ | ⟨off, v, hq, rfl⟩ | ⟨hq, rfl⟩⟩ := step_cases h
  · obtain ⟨hirq, hleave⟩ := engineStep_irqPend hx
    exact ⟨hirq.imp_right .inl, hleave⟩
  · obtain ⟨hirq, hleave⟩ := engineStep_irqPend hx
    exact ⟨hirq.imp_right .inl, hleave⟩
  · obtain ⟨w, b, hr⟩ := hostRead_frame off { s with hostQ := q }
    rw [hr]
    exact ⟨.inl rfl, fun hbusy => leavesBusyWithIrq_of_busy hbusy⟩
  · obtain ⟨hirq, hleave⟩ := hostEffect_irqPend (hostWrite_effect off v { s with hostQ := q })
    exact ⟨hirq.imp_right fun ⟨hclear, hact⟩ => .inr ⟨hclear, .inr ⟨off, v, q, hq, hact⟩⟩, hleave⟩
  · exact ⟨.inr (.inr ⟨rfl, .inl ⟨q, hq⟩⟩), fun _ => nofun⟩

/-- Settles O59: of the three things a step can do to IRQ_PEND, each clause excludes two. -/
theorem irqPendChanges : Obligations.IrqPendChanges := by
  intro s t h
  obtain ⟨hirq, hleave⟩ := step_irqPend h
  refine ⟨fun hs ht => ?_, hleave, fun hs ht => ?_⟩
  · obtain hsame | ⟨hbusy, -, hrun⟩ | ⟨hclear, -⟩ := hirq
    · rw [hsame, hs] at ht
      cases ht
    · exact ⟨hbusy, hrun⟩
    · rw [hclear] at ht
      cases ht
  · obtain hsame | ⟨-, hset, -⟩ | ⟨-, hact⟩ := hirq
    · rw [hsame, hs] at ht
      cases ht
    · rw [hset] at ht
      cases ht
    · exact hact

end Sys2Proof.Machine
end

section
/-! What ML_F, ML_T, ML_Q, ML_P and ML_L hold while ML_ST = IDLE is never observed (10_state.md R40,
70_reset_and_hazards.md R532). -/

namespace Sys2Proof.Machine

/-- How an instruction answers in a state and in the same state with `u` in the Miller unit: by the same commit of the
same answer. -/
inductive CommitsAlike (i : Instr) (s : State) (u : Miller) : Prop where
  | reg (rd : RegIdx) (r : Except Exc RegVal) (h : exec i s = commitReg rd r s)
      (h' : exec i (s.setMl u) = commitReg rd r (s.setMl u))
  | flag (r : Except Exc Bool) (h : exec i s = commitFlag r s)
      (h' : exec i (s.setMl u) = commitFlag r (s.setMl u))
  | dmem (r : Except Exc Dmem) (h : exec i s = commitDmem r s)
      (h' : exec i (s.setMl u) = commitDmem r (s.setMl u))
  | ml (r : Except Exc Miller) (h : exec i s = commitMl r s)
      (h' : exec i (s.setMl u) = commitMl r (s.setMl u))
  | goto (a : BitVec 10) (h : exec i s = .next (s.goto a)) (h' : exec i (s.setMl u) = .next ((s.setMl u).goto a))
  | halt (hi : i = .halt)
  | miller (rd rs1 rs2 : RegIdx) (hi : i = .miller rd rs1 rs2)

theorem millerStep_of_idle {u : Miller} (h : u.st = .idle) : millerStep u = .error (.mlState .idle) := by
  rw [millerStep, h]

theorem readMl_of_idle {u : Miller} (h : u.st = .idle) (v : RegVal) : readMl u v = .error (.mlState .idle) :=
  if_pos h

theorem mlIsDone_of_idle {u : Miller} (h : u.st = .idle) : mlIsDone u = false := by simp [mlIsDone, h]

/-- While ML_ST = IDLE every instruction answers alike whatever else the Miller unit holds. -/
theorem exec_commitsAlike (i : Instr) {s : State} {u : Miller} (hs : s.ml.st = .idle) (hu : u.st = .idle) :
    CommitsAlike i s u := by
  cases i with
  | halt => exact .halt rfl
  | nop => exact .goto (s.pc + 1) rfl rfl
  | jmp target => exact .goto (target.setWidth 10) rfl rfl
  | bt target => exact .goto _ (exec_bt target s) (exec_bt target (s.setMl u))
  | bf target => exact .goto _ (exec_bf target s) (exec_bf target (s.setMl u))
  | miller rd rs1 rs2 => exact .miller rd rs1 rs2 rfl
  | mlinit => exact .ml _ rfl rfl
  | mlstep =>
    exact .ml _ (congrArg (commitMl · _) (millerStep_of_idle hs)) (congrArg (commitMl · _) (millerStep_of_idle hu))
  | mlrdf rd | mlrdt rd | mlrdl rd =>
    exact .reg rd _ (congrArg (commitReg rd · _) (readMl_of_idle hs _))
      (congrArg (commitReg rd · _) (readMl_of_idle hu _))
  | mldone =>
    exact .flag (.ok false) (congrArg (fun b => commitFlag (.ok b) s) (mlIsDone_of_idle hs))
      (congrArg (fun b => commitFlag (.ok b) (s.setMl u)) (mlIsDone_of_idle hu))
  | stFp | stFp2 | stFp6 | stFp12 | stsc | stg1 | stg2 => exact .dmem _ rfl rfl
  | eq | iszeroFp | iszeroFp2 | iszeroFp6 | iszeroFp12 | isoneFp | isoneFp2 | isoneFp6 | isoneFp12 | isinfG1
  | isinfG2 => exact .flag _ rfl rfl
  | clr | zeroFp | zeroFp2 | zeroFp6 | zeroFp12 | oneFp | oneFp2 | oneFp6 | oneFp12 | pinfG1 | pinfG2 | ldsc =>
    exact .reg _ (.ok _) rfl rfl
  | _ => exact .reg _ _ rfl rfl

/-! ## The same step from both states -/

theorem sameObservable_refl (s : State) : s.sameObservable s := ⟨rfl, rfl, rfl, fun _ => rfl⟩

/-- `u` agrees with `s`'s Miller unit in all that R532 specifies of it in IDLE. -/
def HiddenIn (s : State) (u : Miller) : Prop := s.ml.st = .idle ∧ u.st = .idle ∧ u.i = s.ml.i

theorem sameObservable_setMl {t : State} {u : Miller} (h : HiddenIn t u) : t.sameObservable (t.setMl u) := by
  obtain ⟨ht, hu, hi⟩ := h
  exact ⟨rfl, hu.trans ht.symm, hi, fun hne => absurd ht hne⟩

/-- Two states with the same observables are equal, or differ in the Miller unit of IDLE only. -/
theorem sameObservable_cases {s s' : State} (h : s.sameObservable s') :
    s' = s ∨ ∃ u, HiddenIn s u ∧ s' = s.setMl u := by
  obtain ⟨hs', hst, hi, hml⟩ := h
  by_cases hidle : s.ml.st = .idle
  · exact .inr ⟨s'.ml, ⟨hidle, hst.trans hidle, hi⟩, hs'⟩
  · rw [hml hidle] at hs'
    exact .inl hs'

/-- Both answer a next state, and these have the same observables. -/
def AnswerAlike (x y : Result) : Prop := ∃ t t', x = .next t ∧ y = .next t' ∧ t.sameObservable t'

theorem answerAlike_setMl {t : State} {u : Miller} (h : HiddenIn t u) : AnswerAlike (.next t) (.next (t.setMl u)) :=
  ⟨t, t.setMl u, rfl, rfl, sameObservable_setMl h⟩

theorem answerAlike_of_eq (t : State) : AnswerAlike (.next t) (.next t) := ⟨t, t, rfl, rfl, sameObservable_refl t⟩

theorem startEngine_setMl (s : State) (u : Miller) : startEngine (s.setMl u) = (startEngine s).setMl u := by
  by_cases hbusy : s.run = .busy
  · rw [startEngine, startEngine, if_pos hbusy, if_pos (by rwa [setMl_run])]
    rfl
  · rw [startEngine, startEngine, if_neg hbusy, if_neg (by rwa [setMl_run])]
    rfl

section Alike
variable {s : State} {u : Miller} (h : HiddenIn s u)
include h

/-- MILLER reads nothing of the Miller unit: its loop starts with MLINIT. -/
theorem execMiller_answerAlike (rd rs1 rs2 : RegIdx) :
    AnswerAlike (execMiller rd rs1 rs2 s) (execMiller rd rs1 rs2 (s.setMl u)) := by
  have hsrcs : srcs (s.setMl u) rs1 asG2 rs2 asG1 = srcs s rs1 asG2 rs2 asG1 := rfl
  simp only [execMiller, hsrcs]
  cases srcs s rs1 asG2 rs2 asG1 with
  | error e => exact answerAlike_setMl (t := trap e s) h
  | ok x =>
    dsimp only
    split
    · next v e _ => exact answerAlike_of_eq (trap e (s.setMl v))
    · next v _ => exact answerAlike_of_eq ((s.setMl v).setReg rd (.fp12 v.f)).advance

theorem exec_answerAlike (i : Instr) : AnswerAlike (exec i s) (exec i (s.setMl u)) := by
  cases exec_commitsAlike i h.1 h.2.1 with
  | reg rd r hx hx' =>
    rw [hx, hx']
    cases r with
    | ok v => exact answerAlike_setMl (t := (s.setReg rd v).advance) h
    | error e => exact answerAlike_setMl (t := trap e s) h
  | flag r hx hx' =>
    rw [hx, hx']
    cases r with
    | ok b => exact answerAlike_setMl (t := (s.setFlag b).advance) h
    | error e => exact answerAlike_setMl (t := trap e s) h
  | dmem r hx hx' =>
    rw [hx, hx']
    cases r with
    | ok m => exact answerAlike_setMl (t := (s.setDmem m).advance) h
    | error e => exact answerAlike_setMl (t := trap e s) h
  | ml r hx hx' =>
    rw [hx, hx']
    cases r with
    | ok v => exact answerAlike_of_eq (s.setMl v).advance
    | error e => exact answerAlike_setMl (t := trap e s) h
  | goto a hx hx' =>
    rw [hx, hx']
    exact answerAlike_setMl (t := s.goto a) h
  | halt hi =>
    subst hi
    exact answerAlike_setMl (t := { s.advance with run := .halted, irqPend := true }) h
  | miller rd rs1 rs2 hi =>
    subst hi
    exact execMiller_answerAlike h rd rs1 rs2

theorem engineStep_answerAlike : AnswerAlike (engineStep s) (engineStep (s.setMl u)) := by
  have hfetch : fetch (s.setMl u) = fetch s := rfl
  simp only [engineStep, setMl_run, hfetch]
  split
  · cases fetch s with
    | ok i => exact exec_answerAlike h i
    | error e => exact answerAlike_setMl (t := trap e s) h
  · exact answerAlike_setMl h

/-- The host reads no Miller field but ML_ST, in STATUS. -/
theorem mmioRead_setMl (m : Mmio) : mmioRead (s.setMl u) m = mmioRead s m := by
  obtain ⟨hs, hu, -⟩ := h
  cases m with
  | status => simp only [mmioRead, statusWord, setMl_ml, hs, hu]; rfl
  | _ => rfl

theorem hostRead_answerAlike (off : BitVec 15) :
    AnswerAlike (.next (hostRead off s)) (.next (hostRead off (s.setMl u))) := by
  simp only [hostRead_eq, setMl_run, mmioRead_setMl h]
  split
  · exact answerAlike_setMl (t := { s with rdata := 0, hostErr := true }) h
  · exact answerAlike_setMl (t := { s with rdata := mmioRead s (mmioOf off) }) h

/-- CTRL's write makes a soft reset, which sets the whole Miller unit, or leaves it alone. -/
theorem writeCtrl_answerAlike (v : Word) :
    AnswerAlike (.next (writeCtrl v s)) (.next (writeCtrl v (s.setMl u))) := by
  by_cases hsreset : v.getLsbD 1 = true
  · simp only [writeCtrl, if_pos hsreset]
    exact answerAlike_of_eq (softReset s)
  · have hset : writeCtrl v (s.setMl u) = (writeCtrl v s).setMl u := by
      simp only [writeCtrl, if_neg hsreset]
      split
      · exact startEngine_setMl { s with irqEn := v.getLsbD 2 } u
      · rfl
    have hml : (writeCtrl v s).ml = s.ml := (mmioWrite_engine v s .ctrl fun hc => hsreset hc.2).2.2
    rw [hset]
    exact answerAlike_setMl (by rwa [HiddenIn, hml])

theorem hostWrite_answerAlike (off : BitVec 15) (v : Word) :
    AnswerAlike (.next (hostWrite off v s)) (.next (hostWrite off v (s.setMl u))) := by
  by_cases hrefused : s.run = .busy ∧ refusedWhileBusy off
  · rw [hostWrite_refused hrefused.1 hrefused.2, hostWrite_refused (s := s.setMl u) hrefused.1 hrefused.2]
    exact answerAlike_setMl (t := { s with hostErr := true }) h
  · rw [hostWrite_of_served hrefused, hostWrite_of_served (s := s.setMl u) hrefused]
    cases mmioOf off with
    | ctrl => exact writeCtrl_answerAlike h v
    | _ => exact answerAlike_setMl h

end Alike

/-- One step from both states, whoever takes it. -/
theorem step_answerAlike {s : State} {u : Miller} (h : HiddenIn s u) : AnswerAlike (step s) (step (s.setMl u)) := by
  simp only [step, setMl_hostQ]
  split
  · exact engineStep_answerAlike h
  · next q _ => exact engineStep_answerAlike (s := { s with hostQ := q }) h
  · next off q _ => exact hostRead_answerAlike (s := { s with hostQ := q }) h off
  · next off v q _ => exact hostWrite_answerAlike (s := { s with hostQ := q }) h off v
  · next q _ => exact answerAlike_of_eq (powerOnReset { s with hostQ := q })

/-- Settles O60: equal states step alike, and states that differ in the Miller unit of IDLE do so too. -/
theorem unspecifiedMillerUnobservable : Obligations.UnspecifiedMillerUnobservable := by
  intro s s' t t' hobs ht ht'
  obtain rfl | ⟨u, hu, rfl⟩ := sameObservable_cases hobs
  · cases ht.symm.trans ht'
    exact sameObservable_refl t
  · obtain ⟨r, r', hr, hr', hobs'⟩ := step_answerAlike hu
    cases ht.symm.trans hr
    cases ht'.symm.trans hr'
    exact hobs'

end Sys2Proof.Machine
end

section
/-! Inverses in Fp and Fp2, and the closure of both curves under the group law and, on the twist, under the Frobenius
maps (42_fp.md R211, 43_fp2.md R251, 46_g1.md R360, 47_g2.md R390, R391). -/

namespace Sys2Proof.Machine

/-! ## Inverses -/

theorem fp_toZMod_pow (a : Fp) (e : Nat) : (a.pow e).toZMod = a.toZMod ^ e := by
  rw [Fp.toZMod, val_fp_pow, ZMod.natCast_mod, Nat.cast_pow, Fp.toZMod]

theorem fp_toZMod_ne_zero {a : Fp} (h : a ≠ Fp.zero) : a.toZMod ≠ 0 :=
  fun h0 => h (Fp.toZMod_injective (h0.trans Fp.toZMod_zero.symm))

/-- Fermat's little theorem (42_fp.md R211). -/
theorem fp_mul_inv {a : Fp} (h : a ≠ Fp.zero) : a.mul a.inv = Fp.one := by
  have : Fact P.Prime := ⟨P_prime⟩
  have hexp : P - 2 + 1 = P - 1 := by decide
  apply Fp.toZMod_injective
  rw [Fp.toZMod_mul, Fp.inv, fp_toZMod_pow, Fp.toZMod_one, ← pow_succ', hexp,
    ZMod.pow_card_sub_one_eq_one (fp_toZMod_ne_zero h)]

/-- −1 is no square mod P, so a sum of two squares is 0 only if both are. -/
theorem zmod_sq_add_sq_ne_zero {x y : ZMod P} (hy : y ≠ 0) : x * x + y * y ≠ 0 := by
  have : Fact P.Prime := ⟨P_prime⟩
  intro h
  have hsq : IsSquare (-1 : ZMod P) := by
    refine ⟨x / y, ?_⟩
    field_simp
    linear_combination -h
  exact ZMod.exists_sq_eq_neg_one_iff.1 hsq (by decide)

theorem fp2_norm_ne_zero {a : Fp2} (h : a ≠ Fp2.zero) : a.norm ≠ Fp.zero := by
  intro hnorm
  have hsum : a.c0.toZMod * a.c0.toZMod + a.c1.toZMod * a.c1.toZMod = 0 := by
    rw [← Fp.toZMod_mul, ← Fp.toZMod_mul, ← Fp.toZMod_add, ← Fp.toZMod_zero]
    exact congrArg Fp.toZMod hnorm
  by_cases h1 : a.c1 = Fp.zero
  · have h0 : a.c0 ≠ Fp.zero := fun h0 => h (Fp2.ext_coeffs h0 h1)
    exact zmod_sq_add_sq_ne_zero (fp_toZMod_ne_zero h0) (by rwa [add_comm])
  · exact zmod_sq_add_sq_ne_zero (fp_toZMod_ne_zero h1) hsum

theorem fp2_mul_inv {a : Fp2} (h : a ≠ Fp2.zero) : a.mul a.inv = Fp2.one := by
  have hnorm := fp_mul_inv (fp2_norm_ne_zero h)
  let _ := fp_ringLaws.commRing
  simp only [Fp2.norm, fp_ringLaws.ops_eq] at hnorm
  apply Fp2.ext_coeffs
  · simp only [Fp2.mul, Fp2.inv, Fp2.norm, Fp2.one, fp_ringLaws.ops_eq]
    linear_combination hnorm
  · simp only [Fp2.mul, Fp2.inv, Fp2.norm, Fp2.one, fp_ringLaws.ops_eq]
    ring

/-! ## The group law stays on the curve, over any field's operations -/

/-- O, or a solution of y² = x³ + b. -/
def OnCurve {F : Type} [DecidableEq F] (o : FieldOps F) (b : F) : Pt F → Prop
  | .inf => True
  | .aff x y => curveEq o b x y = true

section Closure
variable {F : Type} [DecidableEq F] {o : FieldOps F} {one b : F}
  (h : RingLaws o.zero one o.add o.sub o.mul o.neg)

theorem onCurve_aff_iff {x y : F} :
    OnCurve o b (.aff x y) ↔ o.sub (o.sub (o.mul y y) (o.mul (o.mul x x) x)) b = o.zero := decide_eq_true_iff

include h

theorem ptNeg_onCurve {p : Pt F} (hp : OnCurve o b p) : OnCurve o b (ptNeg o p) := by
  cases p with
  | inf => trivial
  | aff x y =>
    let _ := h.commRing
    rw [ptNeg_aff, onCurve_aff_iff]
    rw [onCurve_aff_iff] at hp
    simp only [h.ops_eq] at hp ⊢
    linear_combination hp

/-- A line of slope λ through (x1, y1) meets the curve in three points whose x-coordinates add up to λ²; the slope
condition says that x2 is one of them. -/
theorem thirdPoint_onCurve {lam x1 y1 x2 : F} (hp : OnCurve o b (.aff x1 y1))
    (hslope : o.add (o.mul (o.add y1 y1) lam) (o.mul (o.mul lam lam) (o.sub x2 x1)) =
      o.add (o.add (o.mul x1 x1) (o.mul x1 x2)) (o.mul x2 x2)) :
    OnCurve o b (thirdPoint o lam x1 y1 x2) := by
  let _ := h.commRing
  rw [thirdPoint, onCurve_aff_iff]
  rw [onCurve_aff_iff] at hp
  simp only [h.ops_eq] at hp hslope ⊢
  linear_combination hp + (lam * lam - x1 - x2 - x1) * hslope

variable (hinv : ∀ a, a ≠ o.zero → o.mul a (o.inv a) = one)
include hinv

/-- Two points of the curve with one x-coordinate are opposite or equal. -/
theorem y_eq_of_onCurve {x y1 y2 : F} (hp : OnCurve o b (.aff x y1)) (hq : OnCurve o b (.aff x y2))
    (hy : o.add y1 y2 ≠ o.zero) : y1 = y2 := by
  have hi := hinv _ hy
  let _ := h.commRing
  rw [onCurve_aff_iff] at hp hq
  simp only [h.ops_eq] at hp hq hi
  generalize o.inv (y1 + y2) = i at hi
  linear_combination i * (hp - hq) - (y1 - y2) * hi

theorem tangent_onCurve {x y : F} (hp : OnCurve o b (.aff x y)) (hy : o.add y y ≠ o.zero) :
    OnCurve o b (thirdPoint o (tangentSlope o x y) x y x) := by
  apply thirdPoint_onCurve h hp
  have hi := hinv _ hy
  let _ := h.commRing
  simp only [tangentSlope, h.ops_eq] at hi ⊢
  generalize o.inv (y + y) = i at hi
  linear_combination 3 * x * x * hi

theorem chord_onCurve {x1 y1 x2 y2 : F} (hp : OnCurve o b (.aff x1 y1)) (hq : OnCurve o b (.aff x2 y2))
    (hx : o.sub x2 x1 ≠ o.zero) : OnCurve o b (thirdPoint o (chordSlope o x1 y1 x2 y2) x1 y1 x2) := by
  apply thirdPoint_onCurve h hp
  have hi := hinv _ hx
  let _ := h.commRing
  rw [onCurve_aff_iff] at hp hq
  simp only [chordSlope, h.ops_eq] at hp hq hi ⊢
  generalize o.inv (x2 - x1) = i at hi ⊢
  linear_combination i * (hq - hp) + (i * (y2 - y1) * (y2 - y1) + x1 * x1 + x1 * x2 + x2 * x2) * hi

theorem ptAdd_onCurve {p q : Pt F} (hp : OnCurve o b p) (hq : OnCurve o b q) : OnCurve o b (ptAdd o p q) := by
  cases p with
  | inf => rwa [ptAdd_inf_left]
  | aff x1 y1 =>
    cases q with
    | inf => exact hp
    | aff x2 y2 =>
      by_cases hx : x1 = x2
      · subst hx
        by_cases hy : o.add y1 y2 = o.zero
        · rw [ptAdd_opposite o hy]
          trivial
        · obtain rfl := y_eq_of_onCurve h hinv hp hq hy
          rw [ptAdd_tangent o hy]
          exact tangent_onCurve h hinv hp hy
      · rw [ptAdd_chord o hx]
        refine chord_onCurve h hinv hp hq fun hsub => hx ?_
        let _ := h.commRing
        simp only [h.ops_eq] at hsub
        exact (sub_eq_zero.1 hsub).symm

end Closure

/-- What the operation keeps, square and multiply keeps. -/
theorem sqMul_keeps {T : Type} {op : T → T → T} {Q : T → Prop} (hop : ∀ x y, Q x → Q y → Q (op x y)) {one a : T}
    (hone : Q one) (ha : Q a) (e : Nat) : Q (sqMul op one a e) := by
  have hloop : ∀ i acc, Q acc → Q (sqMulLoop op a e i acc) := by
    intro i
    induction i with
    | zero => exact fun acc hacc => hacc
    | succ i ih =>
      intro acc hacc
      rw [sqMulLoop_succ]
      apply ih
      split
      · exact hop _ _ (hop _ _ hacc hacc) ha
      · exact hop _ _ hacc hacc
  exact hloop _ _ hone

/-! ## G1 -/

theorem g1OnCurve_iff (p : G1) : g1OnCurve p = true ↔ OnCurve fpOps (Fp.ofNat 3) p := by
  cases p with
  | inf => exact iff_of_true rfl trivial
  | aff x y => rfl

theorem g1Add_onCurve {p q : G1} (hp : g1OnCurve p = true) (hq : g1OnCurve q = true) :
    g1OnCurve (g1Add p q) = true := by
  rw [g1OnCurve_iff] at hp hq ⊢
  exact ptAdd_onCurve (o := fpOps) fp_ringLaws (fun _ => fp_mul_inv) hp hq

theorem g1Neg_onCurve {p : G1} (hp : g1OnCurve p = true) : g1OnCurve (g1Neg p) = true := by
  rw [g1OnCurve_iff] at hp ⊢
  exact ptNeg_onCurve (o := fpOps) fp_ringLaws hp

theorem g1Mul_onCurve {p : G1} (hp : g1OnCurve p = true) (k : Nat) : g1OnCurve (g1Mul p k) = true :=
  sqMul_keeps (Q := (g1OnCurve · = true)) (fun _ _ => g1Add_onCurve) rfl hp k

/-! ## G2 -/

theorem g2OnCurve_iff (p : G2) : g2OnCurve p = true ↔ OnCurve fp2Ops twistB p := by
  cases p with
  | inf => exact iff_of_true rfl trivial
  | aff x y => rfl

theorem g2Add_onCurve {p q : G2} (hp : g2OnCurve p = true) (hq : g2OnCurve q = true) :
    g2OnCurve (g2Add p q) = true := by
  rw [g2OnCurve_iff] at hp hq ⊢
  exact ptAdd_onCurve (o := fp2Ops) fp2_ringLaws (fun _ => fp2_mul_inv) hp hq

theorem g2Neg_onCurve {p : G2} (hp : g2OnCurve p = true) : g2OnCurve (g2Neg p) = true := by
  rw [g2OnCurve_iff] at hp ⊢
  exact ptNeg_onCurve (o := fp2Ops) fp2_ringLaws hp

theorem g2Mul_onCurve {p : G2} (hp : g2OnCurve p = true) (k : Nat) : g2OnCurve (g2Mul p k) = true :=
  sqMul_keeps (Q := (g2OnCurve · = true)) (fun _ _ => g2Add_onCurve) rfl hp k

/-! ## The Frobenius maps of the twist -/

theorem fp2_conj_mul (a b : Fp2) : (a.mul b).conj = a.conj.mul b.conj := by
  let _ := fp_ringLaws.commRing
  apply Fp2.ext_coeffs <;> simp only [Fp2.conj, Fp2.mul, fp_ringLaws.ops_eq] <;> ring

theorem fp2_conj_sub (a b : Fp2) : (a.sub b).conj = a.conj.sub b.conj := by
  let _ := fp_ringLaws.commRing
  apply Fp2.ext_coeffs <;> simp only [Fp2.conj, Fp2.sub, fp_ringLaws.ops_eq]
  ring

theorem fp2_conj_zero : Fp2.zero.conj = Fp2.zero := by decide

/-- The twist's equation under x ↦ cx·x, y ↦ cy·y with cx³ = cy², for the twist with cx³·b. -/
theorem onCurve_scale {b b' x y cx cy : Fp2} (hp : OnCurve fp2Ops b (.aff x y))
    (hc : (cx.mul cx).mul cx = cy.mul cy) (hb : b.mul (cy.mul cy) = b') :
    OnCurve fp2Ops b' (.aff (x.mul cx) (y.mul cy)) := by
  rw [onCurve_aff_iff] at hp ⊢
  let _ := fp2_ringLaws.commRing
  simp only [fp2Ops, fp2_ringLaws.ops_eq] at hp hc hb ⊢
  linear_combination cy * cy * hp - x * x * x * hc + hb

theorem onCurve_conj {b x y : Fp2} (hp : OnCurve fp2Ops b (.aff x y)) :
    OnCurve fp2Ops b.conj (.aff x.conj y.conj) := by
  rw [onCurve_aff_iff] at hp ⊢
  have hconj := congrArg Fp2.conj hp
  simpa only [fp2Ops, fp2_conj_sub, fp2_conj_mul, fp2_conj_zero] using hconj

/-- The constants of π1: both powers of ξ are ξ^(P−1), which takes the conjugate of b₂ to b₂. -/
theorem frob1_constants :
    ((Fp2.xi.pow ((P - 1) / 3)).mul (Fp2.xi.pow ((P - 1) / 3))).mul (Fp2.xi.pow ((P - 1) / 3)) =
      (Fp2.xi.pow ((P - 1) / 2)).mul (Fp2.xi.pow ((P - 1) / 2)) ∧
    twistB.conj.mul ((Fp2.xi.pow ((P - 1) / 2)).mul (Fp2.xi.pow ((P - 1) / 2))) = twistB := by decide +kernel

/-- The constants of π2: both powers of ξ are ξ^(P²−1) = 1. -/
theorem frob2_constants :
    ((Fp2.xi.pow ((P ^ 2 - 1) / 3)).mul (Fp2.xi.pow ((P ^ 2 - 1) / 3))).mul (Fp2.xi.pow ((P ^ 2 - 1) / 3)) =
      (Fp2.xi.pow ((P ^ 2 - 1) / 2)).mul (Fp2.xi.pow ((P ^ 2 - 1) / 2)) ∧
    twistB.mul ((Fp2.xi.pow ((P ^ 2 - 1) / 2)).mul (Fp2.xi.pow ((P ^ 2 - 1) / 2))) = twistB := by decide +kernel

theorem g2Frob1_onCurve {q : G2} (hq : g2OnCurve q = true) : g2OnCurve (g2Frob1 q) = true := by
  rw [g2OnCurve_iff] at hq ⊢
  cases q with
  | inf => trivial
  | aff x y => exact onCurve_scale (onCurve_conj hq) frob1_constants.1 frob1_constants.2

theorem g2Frob2_onCurve {q : G2} (hq : g2OnCurve q = true) : g2OnCurve (g2Frob2 q) = true := by
  rw [g2OnCurve_iff] at hq ⊢
  cases q with
  | inf => trivial
  | aff x y => exact onCurve_scale hq frob2_constants.1 frob2_constants.2

end Sys2Proof.Machine
end

section
/-! No step puts a point off its curve into a register or the Miller unit (10_state.md R32, R40). -/

namespace Sys2Proof.Machine

/-! ## Answers in their tag's domain -/

/-- Where an instruction's answer is a value, the value lies in its tag's domain. -/
def AnswersInDomain (r : Except Exc RegVal) : Prop := ∀ v, r = .ok v → v.inDomain = true

theorem answersInDomain_ok {v : RegVal} (h : v.inDomain = true) : AnswersInDomain (.ok v) := by
  rintro _ ⟨⟩
  exact h

theorem answersInDomain_map {α : Type} {x : Except Exc α} {f : α → RegVal}
    (h : ∀ a, x = .ok a → (f a).inDomain = true) : AnswersInDomain (x.map f) := by
  cases x with
  | ok a => exact answersInDomain_ok (h a rfl)
  | error e => exact nofun

/-- The inversions and FEXP, which raise on the zero of their level. -/
theorem answersInDomain_bind_ite {α : Type} {x : Except Exc α} {c : α → Prop} [DecidablePred c] {e : Exc}
    {f : α → RegVal} (h : ∀ a, (f a).inDomain = true) :
    AnswersInDomain (x.bind fun a => if c a then .error e else .ok (f a)) := by
  cases x with
  | ok a =>
    intro v hv
    change (if c a then Except.error e else .ok (f a)) = .ok v at hv
    split at hv
    · cases hv
    · cases hv
      exact h a
  | error e => exact nofun

theorem answersInDomain_readMl {u : Miller} {v : RegVal} (h : v.inDomain = true) : AnswersInDomain (readMl u v) := by
  rw [readMl]
  split
  · exact nofun
  · exact answersInDomain_ok h

theorem inDomain_ofG1 (m : Form) (p : G1) : (ofG1 m p).inDomain = g1OnCurve p := by cases m <;> rfl
theorem inDomain_ofG2 (m : Form) (q : G2) : (ofG2 m q).inDomain = g2OnCurve q := by cases m <;> rfl

/-! ## Loads check the curve (41_load_store.md R190, R191) -/

theorem g1Word_onCurve {s : State} {g : Nat} {p : G1} (h : g1Word s g = .ok p) : g1OnCurve p = true := by
  simp only [g1Word, bind, Except.bind, pure, Except.pure] at h
  split at h
  · cases h
  split at h
  · cases h
  split at h
  · cases h
    rfl
  split at h
  · next hon =>
    cases h
    exact hon
  · cases h

theorem g2Word_onCurve {s : State} {g : Nat} {p : G2} (h : g2Word s g = .ok p) : g2OnCurve p = true := by
  simp only [g2Word, bind, Except.bind, pure, Except.pure] at h
  split at h
  · cases h
  split at h
  · cases h
  split at h
  · cases h
  split at h
  · cases h
  split at h
  · cases h
    rfl
  split at h
  · next hon =>
    cases h
    exact hon
  · cases h

/-! ## Operands -/

section Operands
variable {s : State} (hs : s.pointsOnCurve) {r : RegIdx}
include hs

theorem inDomain_of_reg {v : RegVal} (h : s.reg r = v) : v.inDomain = true := h ▸ hs.1 r

theorem inDomain_of_src_some {v : RegVal} (h : src s r some = .ok v) : v.inDomain = true :=
  inDomain_of_reg hs (Option.some.inj (src_eq_ok h))

theorem onCurve_of_asG1 {x : Form × G1} (h : asG1 (s.reg r) = some x) : g1OnCurve x.2 = true :=
  (inDomain_ofG1 ..).symm.trans (inDomain_of_reg hs (asG1_eq_some h))

theorem onCurve_of_asG2 {x : Form × G2} (h : asG2 (s.reg r) = some x) : g2OnCurve x.2 = true :=
  (inDomain_ofG2 ..).symm.trans (inDomain_of_reg hs (asG2_eq_some h))

theorem onCurve_of_asG1Aff {p : G1} (h : asG1Aff (s.reg r) = some p) : g1OnCurve p = true :=
  inDomain_of_reg hs (asG1Aff_eq_some h)

theorem onCurve_of_asG1Jac {p : G1} (h : asG1Jac (s.reg r) = some p) : g1OnCurve p = true :=
  inDomain_of_reg hs (asG1Jac_eq_some h)

theorem onCurve_of_asG2Aff {q : G2} (h : asG2Aff (s.reg r) = some q) : g2OnCurve q = true :=
  inDomain_of_reg hs (asG2Aff_eq_some h)

theorem onCurve_of_asG2Jac {q : G2} (h : asG2Jac (s.reg r) = some q) : g2OnCurve q = true :=
  inDomain_of_reg hs (asG2Jac_eq_some h)

end Operands

/-! ## The registers -/

/-- `i` writes a register with a value in its tag's domain, or writes none, or is MILLER. -/
def WritesInDomain (i : Instr) (s : State) : Prop :=
  (∃ rd r, exec i s = commitReg rd r s ∧ AnswersInDomain r) ∨ (accessOf i).dest = none ∨
    ∃ rd rs1 rs2, i = .miller rd rs1 rs2

theorem exec_writesInDomain (i : Instr) {s : State} (hs : s.pointsOnCurve) : WritesInDomain i s := by
  cases i with
  | miller rd rs1 rs2 => exact .inr (.inr ⟨rd, rs1, rs2, rfl⟩)
  | halt | nop | jmp | bt | bf | mlinit | mlstep | mldone | stFp | stFp2 | stFp6 | stFp12 | stsc | stg1 | stg2 | eq
  | iszeroFp | iszeroFp2 | iszeroFp6 | iszeroFp12 | isoneFp | isoneFp2 | isoneFp6 | isoneFp12 | isinfG1 | isinfG2 =>
    exact .inr (.inl rfl)
  | clr rd | zeroFp rd | zeroFp2 rd | zeroFp6 rd | zeroFp12 rd | oneFp rd | oneFp2 rd | oneFp6 rd | oneFp12 rd
  | pinfG1 rd | pinfG2 rd | ldsc rd => exact .inl ⟨rd, _, rfl, answersInDomain_ok rfl⟩
  | invFp rd | invFp2 rd | invFp6 rd | invFp12 rd | fexp rd =>
    exact .inl ⟨rd, _, rfl, answersInDomain_bind_ite fun _ => rfl⟩
  | mlrdf rd | mlrdl rd => exact .inl ⟨rd, _, rfl, answersInDomain_readMl rfl⟩
  | mlrdt rd => exact .inl ⟨rd, _, rfl, answersInDomain_readMl hs.2.1⟩
  | mov rd => exact .inl ⟨rd, _, rfl, fun _ => inDomain_of_src_some hs⟩
  | ldg1 rd => exact .inl ⟨rd, _, rfl, answersInDomain_map fun _ h => g1Word_onCurve (loadFrom_eq_ok h)⟩
  | ldg2 rd => exact .inl ⟨rd, _, rfl, answersInDomain_map fun _ h => g2Word_onCurve (loadFrom_eq_ok h)⟩
  | paddG1 rd => exact .inl ⟨rd, _, rfl, answersInDomain_map fun _ h => (inDomain_ofG1 ..).trans
      (g1Add_onCurve (onCurve_of_asG1 hs (srcs_eq_ok h).1) (onCurve_of_asG1 hs (srcs_eq_ok h).2))⟩
  | paddG2 rd => exact .inl ⟨rd, _, rfl, answersInDomain_map fun _ h => (inDomain_ofG2 ..).trans
      (g2Add_onCurve (onCurve_of_asG2 hs (srcs_eq_ok h).1) (onCurve_of_asG2 hs (srcs_eq_ok h).2))⟩
  | pdblG1 rd => exact .inl ⟨rd, _, rfl, answersInDomain_map fun _ h => (inDomain_ofG1 ..).trans
      (g1Add_onCurve (onCurve_of_asG1 hs (src_eq_ok h)) (onCurve_of_asG1 hs (src_eq_ok h)))⟩
  | pdblG2 rd => exact .inl ⟨rd, _, rfl, answersInDomain_map fun _ h => (inDomain_ofG2 ..).trans
      (g2Add_onCurve (onCurve_of_asG2 hs (src_eq_ok h)) (onCurve_of_asG2 hs (src_eq_ok h)))⟩
  | pnegG1 rd => exact .inl ⟨rd, _, rfl, answersInDomain_map fun _ h => (inDomain_ofG1 ..).trans
      (g1Neg_onCurve (onCurve_of_asG1 hs (src_eq_ok h)))⟩
  | pnegG2 rd => exact .inl ⟨rd, _, rfl, answersInDomain_map fun _ h => (inDomain_ofG2 ..).trans
      (g2Neg_onCurve (onCurve_of_asG2 hs (src_eq_ok h)))⟩
  | pmulG1 rd => exact .inl ⟨rd, _, rfl, answersInDomain_map fun _ h => (inDomain_ofG1 ..).trans
      (g1Mul_onCurve (onCurve_of_asG1 hs (srcs_eq_ok h).1) _)⟩
  | pmulG2 rd => exact .inl ⟨rd, _, rfl, answersInDomain_map fun _ h => (inDomain_ofG2 ..).trans
      (g2Mul_onCurve (onCurve_of_asG2 hs (srcs_eq_ok h).1) _)⟩
  | ptojG1 rd => exact .inl ⟨rd, _, rfl, answersInDomain_map fun _ h => onCurve_of_asG1Aff hs (src_eq_ok h)⟩
  | ptojG2 rd => exact .inl ⟨rd, _, rfl, answersInDomain_map fun _ h => onCurve_of_asG2Aff hs (src_eq_ok h)⟩
  | ptoaG1 rd => exact .inl ⟨rd, _, rfl, answersInDomain_map fun _ h => onCurve_of_asG1Jac hs (src_eq_ok h)⟩
  | ptoaG2 rd => exact .inl ⟨rd, _, rfl, answersInDomain_map fun _ h => onCurve_of_asG2Jac hs (src_eq_ok h)⟩
  | _ => exact .inl ⟨_, _, rfl, answersInDomain_map fun _ _ => rfl⟩

theorem setReg_inDomain {s : State} (hs : ∀ r, (s.reg r).inDomain = true) (rd : RegIdx) {v : RegVal}
    (hv : v.inDomain = true) (r : RegIdx) : ((s.setReg rd v).reg r).inDomain = true := by
  rw [reg_setReg]
  split
  · exact hv
  · exact hs r

/-- After an instruction every register holds a value in its tag's domain. -/
theorem exec_regs_inDomain {i : Instr} {s t : State} (h : exec i s = .next t) (hs : s.pointsOnCurve) :
    ∀ r, (t.reg r).inDomain = true := by
  have ⟨hregs, _⟩ := hs
  obtain ⟨rd, a, hx, ha⟩ | hnone | ⟨rd, rs1, rs2, rfl⟩ := exec_writesInDomain i hs
  · obtain ⟨v, hv, rfl⟩ | ⟨e, -, rfl⟩ := commitReg_next (hx ▸ h)
    · exact setReg_inDomain hregs rd (ha v hv)
    · exact hregs
  · intro r
    rw [(frameRegistersFlagMiller i s t h).1 r (by simp [hnone])]
    exact hregs r
  · obtain ⟨e, -, rfl⟩ | ⟨x, u, -, ⟨e, -, rfl⟩ | ⟨-, rfl⟩⟩ := execMiller_next h
    · exact hregs
    · exact hregs
    · exact setReg_inDomain (s := s.setMl u) hregs rd rfl

/-! ## The Miller unit -/

/-- ML_T, ML_Q and ML_P lie on their curves. -/
def Miller.PointsOnCurve (u : Miller) : Prop :=
  g2OnCurve u.t = true ∧ g2OnCurve u.q = true ∧ g1OnCurve u.p = true

/-- Every step adds to T points of the twist: T itself, Q and Q's Frobenius images. -/
theorem loopBody_t_onCurve {u : Miller} {f l : Fp12} {t : G2} (hu : u.PointsOnCurve)
    (h : loopBody u = some (f, t, l)) : g2OnCurve t = true := by
  obtain ⟨ht, hq, -⟩ := hu
  rw [loopBody] at h
  split at h
  · cases h
  · next f' t' l' hdbl =>
    obtain ⟨-, -, rfl⟩ := lineAndAdd_some hdbl
    have hdouble : g2OnCurve (g2Add u.t u.t) = true := g2Add_onCurve ht ht
    split at h
    · obtain ⟨-, -, rfl⟩ := lineAndAdd_some h
      exact g2Add_onCurve hdouble hq
    · cases h
      exact hdouble

theorem stepLoop_t_onCurve {u v : Miller} (hu : u.PointsOnCurve) (h : stepLoop u = some v) :
    g2OnCurve v.t = true := by
  rw [stepLoop] at h
  split at h
  · cases h
  · next f t l hbody =>
    have ht := loopBody_t_onCurve hu hbody
    split at h <;> cases h <;> exact ht

theorem stepFrob1_t_onCurve {u v : Miller} (hu : u.PointsOnCurve) (h : stepFrob1 u = some v) :
    g2OnCurve v.t = true := by
  obtain ⟨ht, hq, -⟩ := hu
  rw [stepFrob1] at h
  split at h
  · cases h
  · next f t l hadd =>
    obtain ⟨-, -, rfl⟩ := lineAndAdd_some hadd
    cases h
    exact g2Add_onCurve ht (g2Frob1_onCurve hq)

theorem stepFrob2_t_onCurve {u v : Miller} (hu : u.PointsOnCurve) (h : stepFrob2 u = some v) :
    g2OnCurve v.t = true := by
  obtain ⟨ht, hq, -⟩ := hu
  rw [stepFrob2] at h
  split at h
  · cases h
  · next f t l hadd =>
    obtain ⟨-, -, rfl⟩ := lineAndAdd_some hadd
    cases h
    exact g2Add_onCurve ht (g2Neg_onCurve (g2Frob2_onCurve hq))

/-- A completed Miller step is that of its state. -/
theorem millerStep_eq_ok {u v : Miller} (h : millerStep u = .ok v) :
    stepLoop u = some v ∨ stepFrob1 u = some v ∨ stepFrob2 u = some v := by
  rw [millerStep] at h
  split at h
  · cases h
  · cases h
  · split at h
    · next w hw => cases h; exact .inl hw
    · cases h
  · split at h
    · next w hw => cases h; exact .inr (.inl hw)
    · cases h
  · split at h
    · next w hw => cases h; exact .inr (.inr hw)
    · cases h

theorem millerStep_pointsOnCurve (u v : Miller) (h : millerStep u = .ok v) (hu : u.PointsOnCurve) :
    v.PointsOnCurve := by
  obtain ⟨hq, hp, -⟩ := millerStep_ok h
  have ht : g2OnCurve v.t = true := by
    obtain hstep | hstep | hstep := millerStep_eq_ok h
    · exact stepLoop_t_onCurve hu hstep
    · exact stepFrob1_t_onCurve hu hstep
    · exact stepFrob2_t_onCurve hu hstep
  exact ⟨ht, by rw [hq]; exact hu.2.1, by rw [hp]; exact hu.2.2⟩

/-- After an instruction the Miller unit's points lie on their curves. -/
theorem exec_ml_pointsOnCurve {i : Instr} {s t : State} (h : exec i s = .next t) (hs : s.pointsOnCurve) :
    t.ml.PointsOnCurve := by
  have ⟨_, hml⟩ := hs
  obtain hsame | hstep | ⟨rs1, rs2, m, n, q, p, k, hq, hp, hrun⟩ := exec_ml h
  · rwa [hsame]
  · exact millerStep_pointsOnCurve _ _ hstep hml
  · have hq : g2OnCurve q = true := (inDomain_ofG2 m q).symm.trans (inDomain_of_reg hs hq)
    have hp : g1OnCurve p = true := (inDomain_ofG1 n p).symm.trans (inDomain_of_reg hs hp)
    rw [hrun]
    exact millerLoop_keeps millerStep_pointsOnCurve k (millerInit q p) ⟨hq, hq, hp⟩

/-! ## Every step -/

theorem pointsOnCurve_keptByParts : KeptByParts State.pointsOnCurve where
  queue _ _ hs := hs
  exec _ _ _ _ h hs := ⟨exec_regs_inDomain h hs, exec_ml_pointsOnCurve h hs⟩
  trap _ _ hs := hs
  read _ _ _ hs := hs
  write off v s t h hs := by
    cases h with
    | sreset => exact reset_pointsOnCurve
    | _ => exact hs
  powerOn _ := reset_pointsOnCurve

/-- Settles O13: loads check the curve, and every operation on points is closed on its curve. -/
theorem stepKeepsPointsOnCurve : Obligations.StepKeepsPointsOnCurve :=
  fun _ _ hs h => pointsOnCurve_keptByParts.step h hs

end Sys2Proof.Machine
end

section
/-! Coefficients in the layout's order: how the embeddings pad them and how an index names one
(20_memory.md R96, 43_fp2.md R267 to R269, 44_fp6.md R304, R305, 45_fp12.md R337, R338). -/

namespace Sys2Proof.Machine

/-! ## Embeddings -/

/-- Padding with zeros keeps the coefficients at the lowest indices and has 0 at every other. The coefficients of
`Fp2.ofFp`, `Fp6.ofFp2`, `Fp12.ofFp6` and their compositions are, by definition, such a padding of the operand's. -/
theorem val_coeffAt_append_zeros (cs : List Fp) (n k : Nat) :
    (coeffAt (cs ++ List.replicate n Fp.zero) k).val = if k < cs.length then (coeffAt cs k).val else 0 := by
  split
  · next hk => rw [coeffAt, coeffAt, List.getD_append _ _ _ _ hk]
  · next hk =>
    rw [coeffAt, List.getD_append_right _ _ _ _ (Nat.le_of_not_lt hk), List.getD_eq_getElem?_getD,
      List.getElem?_getD_replicate_default_eq, Fp.val_zero]

/-- The same for the one coefficient of an Fp value. -/
theorem val_coeffAt_cons_zeros (a : Fp) (n k : Nat) :
    (coeffAt ([a] ++ List.replicate n Fp.zero) k).val = if k = 0 then a.val else 0 := by
  cases k with
  | zero => rfl
  | succ k => rw [val_coeffAt_append_zeros, if_neg (by simp), if_neg (Nat.succ_ne_zero k)]

/-! ## Indices -/

theorem fp2_coeffAt (a : Fp2) {l : Nat} (hl : l < 2) : coeffAt a.coeffs l = partOf a l := by
  interval_cases l <;> rfl

theorem fp6_coeffAt (a : Fp6) {k l : Nat} (hk : k < 3) (hl : l < 2) :
    coeffAt a.coeffs (2 * k + l) = partOf (slotOf a k) l := by
  rw [← fp2_coeffAt _ hl]
  interval_cases k <;> interval_cases l <;> rfl

/-- An index of the six coefficients of half `j`. -/
theorem fp12_coeffAt_half (a : Fp12) {j m : Nat} (hj : j < 2) (hm : m < 6) :
    coeffAt a.coeffs (6 * j + m) = coeffAt (halfOf a j).coeffs m := by
  have hlen : a.c0.coeffs.length = 6 := rfl
  rw [Fp12.coeffs, coeffAt, coeffAt]
  interval_cases j
  · rw [List.getD_append _ _ _ _ (by omega), Nat.mul_zero, Nat.zero_add]
    rfl
  · rw [List.getD_append_right _ _ _ _ (by omega), hlen, Nat.mul_one, Nat.add_sub_cancel_left]
    rfl

theorem fp12_coeffAt (a : Fp12) {j k l : Nat} (hj : j < 2) (hk : k < 3) (hl : l < 2) :
    coeffAt a.coeffs (6 * j + 2 * k + l) = partOf (slotOf (halfOf a j) k) l := by
  rw [Nat.add_assoc, fp12_coeffAt_half a hj (by omega), fp6_coeffAt _ hk hl]

/-! ## EMB, MKFP2 and COEF -/

/-- COEF writes the coefficient that its index names. -/
theorem commitReg_coef {α : Type} {s : State} {rd rs1 : RegIdx} {want : RegVal → Option α} {a : α}
    {coeffs : α → List Fp} {imm : Imm9} {i : Nat} {c : Fp}
    (hsrc : src s rs1 want = .ok a) (hi : imm.toNat = i) (hc : coeffAt (coeffs a) i = c) :
    commitReg rd ((src s rs1 want).map fun a => .fp (coeffAt (coeffs a) imm.toNat)) s =
      .next (s.setReg rd (.fp c)).advance := by
  rw [← hc, ← hi]
  exact commitReg_map_ok _ hsrc

/-- Settles O31: EMB pads its operand's coefficients with zeros, and an index runs through halves, slots and parts. -/
theorem embedAndProject : Obligations.EmbedAndProject := by
  intro s rd rs1
  refine ⟨fun a ha => ⟨?_, ?_, ?_, fun rs2 b hb => ?_, ?_⟩, fun a ha => ⟨?_, ?_, fun l imm hl hi => ?_⟩,
    fun a ha => ⟨?_, fun k l imm hk hl hi => ?_⟩, fun a ha j k l imm hj hk hl hi => ?_⟩
  · exact ⟨Fp2.ofFp a, fun k _ => val_coeffAt_cons_zeros a 1 k,
      commitReg_map_ok _ (src_of_reg (want := asFp) ha nofun rfl)⟩
  · exact ⟨Fp6.ofFp2 (Fp2.ofFp a), fun k _ => val_coeffAt_cons_zeros a 5 k,
      commitReg_map_ok _ (src_of_reg (want := asUpToFp2) ha nofun rfl)⟩
  · exact ⟨Fp12.ofFp6 (Fp6.ofFp2 (Fp2.ofFp a)), fun k _ => val_coeffAt_cons_zeros a 11 k,
      commitReg_map_ok _ (src_of_reg (want := asUpToFp6) ha nofun rfl)⟩
  · have hsrcs : srcs s rs1 asFp rs2 asFp = .ok (a, b) := srcs_of_reg ha hb nofun nofun rfl rfl
    exact commitReg_map_ok _ hsrcs
  · exact commitReg_coef (coeffs := fun a => [a]) (src_of_reg (want := asFp) ha nofun rfl) rfl rfl
  · exact ⟨Fp6.ofFp2 a, fun k _ => val_coeffAt_append_zeros a.coeffs 4 k,
      commitReg_map_ok _ (src_of_reg (want := asUpToFp2) ha nofun rfl)⟩
  · exact ⟨Fp12.ofFp6 (Fp6.ofFp2 a), fun k _ => val_coeffAt_append_zeros a.coeffs 10 k,
      commitReg_map_ok _ (src_of_reg (want := asUpToFp6) ha nofun rfl)⟩
  · exact commitReg_coef (src_of_reg (want := asFp2) ha nofun rfl) hi (fp2_coeffAt a hl)
  · exact ⟨Fp12.ofFp6 a, fun k _ => val_coeffAt_append_zeros a.coeffs 6 k,
      commitReg_map_ok _ (src_of_reg (want := asUpToFp6) ha nofun rfl)⟩
  · exact commitReg_coef (src_of_reg (want := asFp6) ha nofun rfl) hi (fp6_coeffAt a hk hl)
  · exact commitReg_coef (src_of_reg (want := asFp12) ha nofun rfl) hi (fp12_coeffAt a hj hk hl)

end Sys2Proof.Machine
end

section
/-! Loads: what they read where the words of their granules are good (41_load_store.md R180 to R184, R189 to R191,
R194), and which exception they raise otherwise (20_memory.md R81, 60_exceptions.md R487 to R489). -/

namespace Sys2Proof.Machine

/-! ## A load commits its layout's read -/

section Load
variable {α : Type} {s : State} {rd : RegIdx} {g n : Nat} {read : Nat → Except Exc α}

theorem commitReg_map_error {r : Except Exc α} {e : Exc} (f : α → RegVal) (h : r = .error e) :
    commitReg rd (r.map f) s = .next (s.faulted e.code e.info) := by
  rw [h, ← trap_eq_faulted]; rfl

theorem commitReg_load_ok {a : α} (f : α → RegVal) (hg : g + n ≤ Config.granules) (h : read g = .ok a) :
    commitReg rd ((loadFrom g n read).map f) s = .next (s.setReg rd (f a)).advance :=
  commitReg_map_ok f (by rw [loadFrom_eq, if_pos hg, h])

theorem commitReg_load_error {e : Exc} (f : α → RegVal) (hg : g + n ≤ Config.granules) (h : read g = .error e) :
    commitReg rd ((loadFrom g n read).map f) s = .next (s.faulted e.code e.info) :=
  commitReg_map_error f (by rw [loadFrom_eq, if_pos hg, h])

theorem commitReg_load_outside (f : α → RegVal) (hg : ¬ g + n ≤ Config.granules) :
    commitReg rd ((loadFrom g n read).map f) s = .next (s.faulted 5 (BitVec.ofNat 32 g)) := by
  have hload : loadFrom g n read = .error (.memBounds g) := by rw [loadFrom_eq, if_neg hg]
  exact commitReg_map_error f hload

/-- A load whose read has the three answers of a point's words (41_load_store.md R190, R191). -/
theorem commitReg_load_point {zero : Prop} [Decidable zero] {onCurve : Bool} {o p : α} (f : α → RegVal)
    (hg : g + n ≤ Config.granules)
    (h : read g = if zero then .ok o else if onCurve then .ok p else .error (.invalidPoint g)) :
    (zero → commitReg rd ((loadFrom g n read).map f) s = .next (s.setReg rd (f o)).advance) ∧
    (¬ zero → onCurve = true → commitReg rd ((loadFrom g n read).map f) s = .next (s.setReg rd (f p)).advance) ∧
    (¬ zero → ¬ onCurve = true →
      commitReg rd ((loadFrom g n read).map f) s = .next (s.faulted 7 (BitVec.ofNat 32 g))) := by
  refine ⟨fun h0 => ?_, fun h0 hon => ?_, fun h0 hoff => ?_⟩
  · exact commitReg_load_ok f hg (by rw [h, if_pos h0])
  · exact commitReg_load_ok f hg (by rw [h, if_neg h0, if_pos hon])
  · have hread : read g = .error (.invalidPoint g) := by rw [h, if_neg h0, if_neg hoff]
    exact commitReg_load_error f hg hread

end Load

/-! ## Field values -/

section Coefficients
variable (s : State) (g : Nat)

/-- The word of granule g, reduced mod P. -/
def fpAt : Fp := Fp.ofNat (word s g)

/-- The Fp2 value of the words from granule g on, in increasing granule order (20_memory.md R96). -/
def fp2At : Fp2 := ⟨fpAt s g, fpAt s (g + 1)⟩

/-- The Fp6 value of the six words from granule g on. -/
def fp6At : Fp6 := ⟨fp2At s g, fp2At s (g + 2), fp2At s (g + 4)⟩

/-- The Fp12 value of the twelve words from granule g on. -/
def fp12At : Fp12 := ⟨fp6At s g, fp6At s (g + 6)⟩

variable {s g}

theorem val_fpAt (h : word s g < P) : (fpAt s g).val = word s g := Nat.mod_eq_of_lt h

theorem val_coeffAt_fp2At (h : ∀ k < 2, word s (g + k) < P) :
    ∀ k < 2, (coeffAt (fp2At s g).coeffs k).val = word s (g + k) := by
  intro k hk
  have hval := val_fpAt (h k hk)
  interval_cases k <;> exact hval

theorem val_coeffAt_fp6At (h : ∀ k < 6, word s (g + k) < P) :
    ∀ k < 6, (coeffAt (fp6At s g).coeffs k).val = word s (g + k) := by
  intro k hk
  have hval := val_fpAt (h k hk)
  interval_cases k <;> exact hval

theorem val_coeffAt_fp12At (h : ∀ k < 12, word s (g + k) < P) :
    ∀ k < 12, (coeffAt (fp12At s g).coeffs k).val = word s (g + k) := by
  intro k hk
  have hval := val_fpAt (h k hk)
  interval_cases k <;> exact hval

end Coefficients

/-- Settles O39: reduced words are read as the coefficients they are, and a scalar holds any word. -/
theorem loadFieldResults : Obligations.LoadFieldResults := by
  intro s rd g
  refine ⟨fun h => ?_, fun hg h => ?_, fun hg h => ?_, fun hg h => ?_, ?_⟩
  · have hg : g.toNat + 1 ≤ Config.granules := g.isLt
    exact ⟨fpAt s g.toNat, val_fpAt h, commitReg_load_ok _ hg (fpWord_of (val_fpAt h).symm)⟩
  · have hval := val_coeffAt_fp2At h
    exact ⟨fp2At s g.toNat, hval, commitReg_load_ok _ hg (fp2Word_of fun k hk => (hval k hk).symm)⟩
  · have hval := val_coeffAt_fp6At h
    exact ⟨fp6At s g.toNat, hval, commitReg_load_ok _ hg (fp6Word_of fun k hk => (hval k hk).symm)⟩
  · have hval := val_coeffAt_fp12At h
    exact ⟨fp12At s g.toNat, hval, commitReg_load_ok _ hg (fp12Word_of fun k hk => (hval k hk).symm)⟩
  · have hval : (BitVec.ofNat 256 (word s g.toNat)).toNat = word s g.toNat := by
      rw [BitVec.toNat_ofNat, Nat.mod_eq_of_lt (word_lt s g.toNat)]
    exact ⟨_, hval, rfl⟩

/-! ## Points -/

/-- `on_g1` in the integers (41_load_store.md R189). -/
theorem onG1_iff (x y : Fp) : onG1 x y = true ↔ ((y.val : Int) ^ 2 - (x.val : Int) ^ 3 - 3) % P = 0 := by
  have hcast : ((((y.val : Int) ^ 2 - (x.val : Int) ^ 3 - 3 : Int)) : ZMod P) =
      y.toZMod * y.toZMod - x.toZMod * x.toZMod * x.toZMod - 3 := by
    simp only [Fp.toZMod]
    push_cast
    ring
  rw [← Int.dvd_iff_emod_eq_zero, ← ZMod.intCast_zmod_eq_zero_iff_dvd, hcast]
  change OnCurve fpOps (Fp.ofNat 3) (.aff x y) ↔ _
  rw [onCurve_aff_iff, ← Fp.toZMod_injective.eq_iff]
  simp only [fpOps, Fp.toZMod_sub, Fp.toZMod_mul, Fp.toZMod_ofNat, Fp.toZMod_zero, Nat.cast_ofNat]

/-- b₂ by the digits of 41_load_store.md R189. -/
theorem twistB_digits : twistB =
    ⟨Fp.ofNat 19485874751759354771024239261021720505790618469301721065564631296452457478373,
     Fp.ofNat 266929791119991161246907387137283842545076965332900288569378510910307636690⟩ := by decide +kernel

/-- `on_g2` as the twist's equation (41_load_store.md R189). -/
theorem onG2_iff (x y : Fp2) : onG2 x y = true ↔ y.mul y = ((x.mul x).mul x).add twistB := by
  change OnCurve fp2Ops twistB (.aff x y) ↔ _
  rw [onCurve_aff_iff]
  let _ := fp2_ringLaws.commRing
  simp only [fp2Ops, fp2_ringLaws.ops_eq]
  rw [sub_sub, sub_eq_zero]

section Wire
variable {s : State} {g : Nat}

/-- What reduced words are read as: O, the point they are the coordinates of, or nothing (41_load_store.md R190). -/
theorem g1Word_of {x y : Fp} (hx : word s g = x.val) (hy : word s (g + 1) = y.val) :
    g1Word s g = if x = Fp.zero ∧ y = Fp.zero then .ok .inf
      else if onG1 x y then .ok (.aff x y) else .error (.invalidPoint g) := by
  simp only [g1Word, fpWord_of hx, fpWord_of hy]
  rfl

/-- The same for G2, the imaginary coefficient of each coordinate first (41_load_store.md R191). -/
theorem g2Word_of {x y : Fp2} (hxi : word s g = x.c1.val) (hxr : word s (g + 1) = x.c0.val)
    (hyi : word s (g + 2) = y.c1.val) (hyr : word s (g + 3) = y.c0.val) :
    g2Word s g = if x = Fp2.zero ∧ y = Fp2.zero then .ok .inf
      else if onG2 x y then .ok (.aff x y) else .error (.invalidPoint g) := by
  have hzero : (x.c1 = Fp.zero ∧ x.c0 = Fp.zero ∧ y.c1 = Fp.zero ∧ y.c0 = Fp.zero) ↔
      x = Fp2.zero ∧ y = Fp2.zero :=
    ⟨fun ⟨hx1, hx0, hy1, hy0⟩ => ⟨Fp2.ext_coeffs hx0 hx1, Fp2.ext_coeffs hy0 hy1⟩,
      by
        rintro ⟨rfl, rfl⟩
        exact ⟨rfl, rfl, rfl, rfl⟩⟩
  simp only [g2Word, fpWord_of hxi, fpWord_of hxr, fpWord_of hyi, fpWord_of hyr, ← hzero]
  rfl

end Wire

/-- Settles O40: the three answers of a point's read, by whether its words are all zero and solve the equation. -/
theorem loadPointResults : Obligations.LoadPointResults := by
  intro s rd g
  refine ⟨fun hg x y hx hy => ?_, fun hg x y hxi hxr hyi hyr => ?_⟩
  · have hzero : (x.val = 0 ∧ y.val = 0) ↔ x = Fp.zero ∧ y = Fp.zero := by
      rw [Fp.eq_iff_val, Fp.eq_iff_val, Fp.val_zero]
    rw [Ne, hzero, ← onG1_iff]
    exact commitReg_load_point _ hg (g1Word_of hx hy)
  · rw [← twistB_digits, Ne, ← onG2_iff]
    exact commitReg_load_point _ hg (g2Word_of hxi hxr hyi hyr)

end Sys2Proof.Machine
end

section
/-! The exceptions of loads and stores: MEM_BOUNDS for granules that do not all exist, a store's only after its
operand's checks, and DECODE_ERROR for the first unreduced word (20_memory.md R81, 41_load_store.md R180,
60_exceptions.md R487, R488, R494). -/

namespace Sys2Proof.Machine

/-! ## The first unreduced word of a load -/

section Reads
variable {α β : Type} {s : State} {g m n : Nat}

/-- Reading `n` granules from `g` on raises DECODE_ERROR for the first of them whose word is not below P. -/
def RaisesFirst (s : State) (g n : Nat) (r : Except Exc α) : Prop :=
  ∀ k < n, (∀ j < k, word s (g + j) < P) → P ≤ word s (g + k) → r = .error (.decodeError (g + k))

/-- Reading `n` granules from `g` on needs nothing but reduced words. -/
def ReadsReduced (s : State) (g n : Nat) (r : Except Exc α) : Prop :=
  (∀ k < n, word s (g + k) < P) → ∃ a, r = .ok a

/-- A read that is done with its granules. -/
theorem raisesFirst_zero (r : Except Exc α) : RaisesFirst s g 0 r := nofun

/-- Of two reads one after the other, the second is reached where all words of the first are reduced. -/
theorem RaisesFirst.bind {r : Except Exc α} {f : α → Except Exc β} (hr : RaisesFirst s g m r)
    (hok : ReadsReduced s g m r) (hf : ∀ a, RaisesFirst s (g + m) n (f a)) : RaisesFirst s g (m + n) (r >>= f) := by
  intro k hk hbefore hge
  by_cases hkm : k < m
  · rw [hr k hkm hbefore hge]
    rfl
  · obtain ⟨i, rfl⟩ := Nat.exists_eq_add_of_le (Nat.le_of_not_lt hkm)
    obtain ⟨a, rfl⟩ := hok fun j hj => hbefore j (by omega)
    rw [← Nat.add_assoc] at hge ⊢
    refine hf a i (by omega) (fun j hj => ?_) hge
    rw [Nat.add_assoc]
    exact hbefore (m + j) (by omega)

theorem fpWord_readsReduced (s : State) (g : Nat) : ReadsReduced s g 1 (fpWord s g) :=
  fun h => ⟨_, fpWord_of (val_fpAt (h 0 Nat.one_pos)).symm⟩
theorem fp2Word_readsReduced (s : State) (g : Nat) : ReadsReduced s g 2 (fp2Word s g) :=
  fun h => ⟨_, fp2Word_of fun k hk => (val_coeffAt_fp2At h k hk).symm⟩
theorem fp6Word_readsReduced (s : State) (g : Nat) : ReadsReduced s g 6 (fp6Word s g) :=
  fun h => ⟨_, fp6Word_of fun k hk => (val_coeffAt_fp6At h k hk).symm⟩

theorem fpWord_raisesFirst (s : State) (g : Nat) : RaisesFirst s g 1 (fpWord s g) := by
  intro k hk _ hge
  obtain rfl : k = 0 := Nat.lt_one_iff.1 hk
  exact fpWord_error (Nat.not_lt.2 hge)

/-- A read that begins with one coefficient; likewise with two and with six. -/
theorem fpWord_bind_raisesFirst {f : Fp → Except Exc β} (hf : ∀ a, RaisesFirst s (g + 1) n (f a)) :
    RaisesFirst s g (1 + n) (fpWord s g >>= f) :=
  (fpWord_raisesFirst s g).bind (fpWord_readsReduced s g) hf

theorem fp2Word_raisesFirst (s : State) (g : Nat) : RaisesFirst s g 2 (fp2Word s g) :=
  fpWord_bind_raisesFirst fun _ => fpWord_bind_raisesFirst fun _ => raisesFirst_zero _

theorem fp2Word_bind_raisesFirst {f : Fp2 → Except Exc β} (hf : ∀ a, RaisesFirst s (g + 2) n (f a)) :
    RaisesFirst s g (2 + n) (fp2Word s g >>= f) :=
  (fp2Word_raisesFirst s g).bind (fp2Word_readsReduced s g) hf

theorem fp6Word_raisesFirst (s : State) (g : Nat) : RaisesFirst s g 6 (fp6Word s g) :=
  fp2Word_bind_raisesFirst fun _ => fp2Word_bind_raisesFirst fun _ => fp2Word_bind_raisesFirst fun _ =>
    raisesFirst_zero _

theorem fp6Word_bind_raisesFirst {f : Fp6 → Except Exc β} (hf : ∀ a, RaisesFirst s (g + 6) n (f a)) :
    RaisesFirst s g (6 + n) (fp6Word s g >>= f) :=
  (fp6Word_raisesFirst s g).bind (fp6Word_readsReduced s g) hf

theorem fp12Word_raisesFirst (s : State) (g : Nat) : RaisesFirst s g 12 (fp12Word s g) :=
  fp6Word_bind_raisesFirst fun _ => fp6Word_bind_raisesFirst fun _ => raisesFirst_zero _

theorem g1Word_raisesFirst (s : State) (g : Nat) : RaisesFirst s g 2 (g1Word s g) :=
  fpWord_bind_raisesFirst fun _ => fpWord_bind_raisesFirst fun _ => raisesFirst_zero _

theorem g2Word_raisesFirst (s : State) (g : Nat) : RaisesFirst s g 4 (g2Word s g) :=
  fpWord_bind_raisesFirst fun _ => fpWord_bind_raisesFirst fun _ => fpWord_bind_raisesFirst fun _ =>
    fpWord_bind_raisesFirst fun _ => raisesFirst_zero _

end Reads

/-! ## Which instructions load, and which store -/

/-- How a load answers: LDSC's one granule is always inside DMEM and never checked; every other load raises for the
first unreduced word. -/
inductive LoadsBy (i : Instr) (s : State) (g : Imm9) (n : Nat) : Prop where
  | scalar (rd : RegIdx) (hi : i = .ldsc rd g) (hn : n = 1)
  | checked {α : Type} (rd : RegIdx) (read : Nat → Except Exc α) (f : α → RegVal)
      (hraises : RaisesFirst s g.toNat n (read g.toNat))
      (h : exec i s = commitReg rd ((loadFrom g.toNat n read).map f) s)

theorem exec_loadsBy {i : Instr} {g : Imm9} {n : Nat} (h : (accessOf i).loaded = some (g, n)) (s : State) :
    LoadsBy i s g n := by
  cases i with
  | ldsc rd => cases h; exact .scalar rd rfl rfl
  | ldFp rd => cases h; exact .checked rd _ _ (fpWord_raisesFirst s _) rfl
  | ldFp2 rd => cases h; exact .checked rd _ _ (fp2Word_raisesFirst s _) rfl
  | ldFp6 rd => cases h; exact .checked rd _ _ (fp6Word_raisesFirst s _) rfl
  | ldFp12 rd => cases h; exact .checked rd _ _ (fp12Word_raisesFirst s _) rfl
  | ldg1 rd => cases h; exact .checked rd _ _ (g1Word_raisesFirst s _) rfl
  | ldg2 rd => cases h; exact .checked rd _ _ (g2Word_raisesFirst s _) rfl
  | _ => cases h

/-- `want` takes every value of the tag `t`, which is not EMPTY. -/
def Accepts {α : Type} (want : RegVal → Option α) (t : Tag) : Prop :=
  ∀ v : RegVal, v.tag = t → v ≠ .empty ∧ ∃ a, want v = some a

theorem asFp_accepts : Accepts asFp .fp := by intro v hv; cases v <;> cases hv; exact ⟨nofun, _, rfl⟩
theorem asFp2_accepts : Accepts asFp2 .fp2 := by intro v hv; cases v <;> cases hv; exact ⟨nofun, _, rfl⟩
theorem asFp6_accepts : Accepts asFp6 .fp6 := by intro v hv; cases v <;> cases hv; exact ⟨nofun, _, rfl⟩
theorem asFp12_accepts : Accepts asFp12 .fp12 := by intro v hv; cases v <;> cases hv; exact ⟨nofun, _, rfl⟩
theorem asG1Aff_accepts : Accepts asG1Aff .g1 := by intro v hv; cases v <;> cases hv; exact ⟨nofun, _, rfl⟩
theorem asG2Aff_accepts : Accepts asG2Aff .g2 := by intro v hv; cases v <;> cases hv; exact ⟨nofun, _, rfl⟩
theorem asSc_accepts : Accepts asSc .sc := by intro v hv; cases v <;> cases hv; exact ⟨nofun, _, rfl⟩

/-- How a store answers: its one operand has the tag its value is taken from. -/
inductive StoresBy (i : Instr) (s : State) (g : Imm9) (n : Nat) : Prop where
  | intro {α : Type} (rs1 : RegIdx) (t : Tag) (want : RegVal → Option α) (words : α → List Nat)
      (hsources : (accessOf i).sources = [(rs1, [t])]) (hwant : Accepts want t)
      (h : exec i s = commitDmem (storeTo s g.toNat rs1 want n words) s)

theorem exec_storesBy {i : Instr} {g : Imm9} {n : Nat} (h : (accessOf i).stored = some (g, n)) (s : State) :
    StoresBy i s g n := by
  cases i with
  | stFp _ rs1 => cases h; exact ⟨rs1, _, _, _, rfl, asFp_accepts, rfl⟩
  | stFp2 _ rs1 => cases h; exact ⟨rs1, _, _, _, rfl, asFp2_accepts, rfl⟩
  | stFp6 _ rs1 => cases h; exact ⟨rs1, _, _, _, rfl, asFp6_accepts, rfl⟩
  | stFp12 _ rs1 => cases h; exact ⟨rs1, _, _, _, rfl, asFp12_accepts, rfl⟩
  | stg1 _ rs1 => cases h; exact ⟨rs1, _, _, _, rfl, asG1Aff_accepts, rfl⟩
  | stg2 _ rs1 => cases h; exact ⟨rs1, _, _, _, rfl, asG2Aff_accepts, rfl⟩
  | stsc _ rs1 => cases h; exact ⟨rs1, _, _, _, rfl, asSc_accepts, rfl⟩
  | _ => cases h

/-- A store of an operand that is read raises MEM_BOUNDS where its granules do not all exist. -/
theorem commitDmem_store_outside {α : Type} {s : State} {g n : Nat} {rs1 : RegIdx} {want : RegVal → Option α} {a : α}
    {words : α → List Nat} (hsrc : src s rs1 want = .ok a) (hg : ¬ g + n ≤ Config.granules) :
    commitDmem (storeTo s g rs1 want n words) s = .next (s.faulted 5 (BitVec.ofNat 32 g)) := by
  rw [storeTo_eq, hsrc]
  simp only [if_neg hg, commitDmem, trap_eq_faulted, Exc.code, Exc.info]

/-- Settles O41: the bounds come before a load's words and after a store's operand, and words are read in order. -/
theorem memoryTraps : Obligations.MemoryTraps := by
  intro i s g n
  refine ⟨fun hloaded => ?_, fun hstored htags hout => ?_⟩
  · cases exec_loadsBy hloaded s with
    | scalar rd hi hn =>
      refine ⟨fun hout => ?_, fun _ hno => absurd hi (hno rd g)⟩
      have hlt : g.toNat < 512 := g.isLt
      omega
    | checked rd read f hraises hx =>
      rw [hx]
      refine ⟨fun hout => commitReg_load_outside f (Nat.not_le.2 hout), fun hin _ k hk hbefore hge => ?_⟩
      exact commitReg_load_error f hin (hraises k hk hbefore hge)
  · obtain ⟨rs1, t, want, words, hsources, hwant, hx⟩ := exec_storesBy hstored s
    have htag : (s.reg rs1).tag = t := by simpa [hsources] using htags
    obtain ⟨hne, a, ha⟩ := hwant _ htag
    rw [hx]
    exact commitDmem_store_outside (src_ok hne ha) (Nat.not_le.2 hout)

end Sys2Proof.Machine
end

section
/-! Stores: what they leave in every granule of DMEM (41_load_store.md R185 to R188, R192, R193, R195). -/

namespace Sys2Proof.Machine

/-- A store inside DMEM of an operand that is read leaves its words in its granules and every other as before. -/
theorem commitDmem_store_ok {α : Type} {s : State} {g n : Nat} {rs1 : RegIdx} {want : RegVal → Option α} {a : α}
    {words : α → List Nat} (hsrc : src s rs1 want = .ok a) (hg : g + n ≤ Config.granules)
    (hlen : (words a).length = n) (hlt : ∀ v ∈ words a, v < 2 ^ 256) :
    ∃ m : Dmem, commitDmem (storeTo s g rs1 want n words) s = .next (s.setDmem m).advance ∧
      ∀ h, word (s.setDmem m) h = if g ≤ h ∧ h < g + n then (words a).getD (h - g) 0 else word s h := by
  refine ⟨setWords s.dmem g (words a), ?_, fun h => ?_⟩
  · rw [storeTo_eq, hsrc]
    simp only [if_pos hg, commitDmem]
  · rw [word_setWords _ _ _ _ hlt, hlen]

/-- The first granule of a range holds the first word, the rest of the range the other words. -/
theorem rangeWord_cons (g h n v w : Nat) (vs : List Nat) :
    (if g ≤ h ∧ h < g + (n + 1) then (v :: vs).getD (h - g) 0 else w) =
      if h = g then v else if g + 1 ≤ h ∧ h < g + 1 + n then vs.getD (h - (g + 1)) 0 else w := by
  by_cases hh : h = g
  · rw [if_pos (by omega), if_pos hh, hh, Nat.sub_self, List.getD_cons_zero]
  · rw [if_neg hh]
    by_cases hin : g + 1 ≤ h ∧ h < g + 1 + n
    · have hsub : h - g = h - (g + 1) + 1 := by omega
      rw [if_pos hin, if_pos (by omega), hsub, List.getD_cons_succ]
    · rw [if_neg hin, if_neg (by omega)]

theorem rangeWord_nil (g h w : Nat) : (if g ≤ h ∧ h < g + 0 then ([] : List Nat).getD (h - g) 0 else w) = w :=
  if_neg (by omega)

theorem fp_val_lt_two_pow (a : Fp) : a.val < 2 ^ 256 := lt_trans a.lt (by decide)

/-- The words of a field value's coefficients, in index order. -/
theorem getD_map_val (cs : List Fp) (i : Nat) : (cs.map Fp.val).getD i 0 = (coeffAt cs i).val :=
  List.getD_map cs Fp.zero Fp.val

theorem map_val_lt (cs : List Fp) : ∀ v ∈ cs.map Fp.val, v < 2 ^ 256 := by
  intro v hv
  obtain ⟨a, -, rfl⟩ := List.mem_map.1 hv
  exact fp_val_lt_two_pow a

/-- The store of a field value above Fp. -/
theorem commitDmem_storeCoeffs {α : Type} {s : State} {g n : Nat} {rs1 : RegIdx} {want : RegVal → Option α} {a : α}
    {coeffs : α → List Fp} (hsrc : src s rs1 want = .ok a) (hg : g + n ≤ 512) (hlen : (coeffs a).length = n) :
    ∃ m : Dmem, commitDmem (storeTo s g rs1 want n fun a => (coeffs a).map Fp.val) s = .next (s.setDmem m).advance ∧
      ∀ h, word (s.setDmem m) h = if g ≤ h ∧ h < g + n then (coeffAt (coeffs a) (h - g)).val else word s h := by
  simp only [← getD_map_val]
  exact commitDmem_store_ok hsrc hg (by rw [List.length_map, hlen]) (map_val_lt _)

/-- The store of one word, whose granule is always inside DMEM. -/
theorem commitDmem_storeOne {α : Type} {s : State} {g : Imm9} {rs1 : RegIdx} {want : RegVal → Option α} {a : α}
    {val : α → Nat} (hsrc : src s rs1 want = .ok a) (hlt : val a < 2 ^ 256) :
    ∃ m : Dmem, commitDmem (storeTo s g.toNat rs1 want 1 fun a => [val a]) s = .next (s.setDmem m).advance ∧
      ∀ h, word (s.setDmem m) h = if h = g.toNat then val a else word s h := by
  obtain ⟨m, hexec, hword⟩ := commitDmem_store_ok (words := fun a => [val a]) (n := 1) hsrc g.isLt rfl (by simpa)
  refine ⟨m, hexec, fun h => ?_⟩
  rw [hword h, rangeWord_cons, rangeWord_nil]

/-- The store of an operand whose words are all zero. -/
theorem commitDmem_storeZeros {α : Type} {s : State} {g n : Nat} {rs1 : RegIdx} {want : RegVal → Option α} {a : α}
    {words : α → List Nat} (hsrc : src s rs1 want = .ok a) (hg : g + n ≤ 512) (hw : words a = List.replicate n 0) :
    ∃ m : Dmem, commitDmem (storeTo s g rs1 want n words) s = .next (s.setDmem m).advance ∧
      ∀ h, word (s.setDmem m) h = if g ≤ h ∧ h < g + n then 0 else word s h := by
  have hlen : (words a).length = n := by rw [hw, List.length_replicate]
  have hlt : ∀ v ∈ words a, v < 2 ^ 256 := by
    intro v hv
    rw [hw] at hv
    rw [List.eq_of_mem_replicate hv]
    decide
  obtain ⟨m, hexec, hword⟩ := commitDmem_store_ok hsrc hg hlen hlt
  refine ⟨m, hexec, fun h => ?_⟩
  rw [hword, hw, List.getD_eq_getElem?_getD, List.getElem?_getD_replicate_default_eq]

theorem g1Wire_lt (p : G1) : ∀ v ∈ g1Wire p, v < 2 ^ 256 := by
  cases p with
  | inf => decide
  | aff x y => exact map_val_lt [x, y]

theorem g2Wire_lt (p : G2) : ∀ v ∈ g2Wire p, v < 2 ^ 256 := by
  cases p with
  | inf => decide
  | aff x y => exact map_val_lt [x.c1, x.c0, y.c1, y.c0]

/-- Settles O42: every store leaves its operand's words in its granules, each the word of its place in the layout. -/
theorem storeResults : Obligations.StoreResults := by
  intro s g rs1
  refine ⟨fun a ha => ?_, fun a ha hg => ?_, fun a ha hg => ?_, fun a ha hg => ?_, fun hp hg => ?_, fun x y hp hg => ?_,
    fun hp hg => ?_, fun x y hp hg => ?_, fun k hk => ?_⟩
  · exact commitDmem_storeOne (src_of_reg (want := asFp) ha nofun rfl) (fp_val_lt_two_pow a)
  · exact commitDmem_storeCoeffs (src_of_reg (want := asFp2) ha nofun rfl) hg a.length_coeffs
  · exact commitDmem_storeCoeffs (src_of_reg (want := asFp6) ha nofun rfl) hg a.length_coeffs
  · exact commitDmem_storeCoeffs (src_of_reg (want := asFp12) ha nofun rfl) hg a.length_coeffs
  · exact commitDmem_storeZeros (src_of_reg (want := asG1Aff) hp nofun rfl) hg rfl
  · obtain ⟨m, hexec, hword⟩ :=
      commitDmem_store_ok (src_of_reg (want := asG1Aff) hp nofun rfl) hg (length_g1Wire _) (g1Wire_lt _)
    refine ⟨m, hexec, fun h => ?_⟩
    rw [hword, g1Wire, rangeWord_cons, rangeWord_cons, rangeWord_nil]
  · exact commitDmem_storeZeros (src_of_reg (want := asG2Aff) hp nofun rfl) hg rfl
  · obtain ⟨m, hexec, hword⟩ :=
      commitDmem_store_ok (src_of_reg (want := asG2Aff) hp nofun rfl) hg (length_g2Wire _) (g2Wire_lt _)
    refine ⟨m, hexec, fun h => ?_⟩
    rw [hword, g2Wire, rangeWord_cons, rangeWord_cons, rangeWord_cons, rangeWord_cons, rangeWord_nil]
  · exact commitDmem_storeOne (src_of_reg (want := asSc) hk nofun rfl) k.isLt

end Sys2Proof.Machine
end

section
/-! Decoder and encoder are inverse to each other, and the decoder refuses exactly the words of 30_encoding.md R118: its
answer for a word is checked format by format (R115), then reading of ft by reading of ft (R112), then along the opcode
map (R116). -/

namespace Sys2Proof.Machine

/-! ## Encoding, then decoding -/

theorem fmtCoef_of_lt {op : BitVec 6} {ft : BitVec 2} {rd rs1 : RegIdx} {imm : Imm9} {n : Nat}
    {mk : RegIdx → RegIdx → Imm9 → Instr} (h : imm.toNat < n) :
    (Fields.mk op ft rd rs1 0 imm).fmtCoef n mk = .ok (mk rd rs1 imm) := by
  rw [Fields.fmtCoef, if_pos rfl, if_pos h]

/-- Each instruction's opcode and ft select its own row of the decoder; only COEF's row checks more than zeros. -/
theorem decodeFields_fields {i : Instr} (hwf : i.wf = true) : decodeFields i.fields = .ok i := by
  cases i with
  | coefFp | coefFp2 | coefFp6 | coefFp12 => exact fmtCoef_of_lt (of_decide_eq_true hwf)
  | _ => rfl

/-- Settles O1: the word's fields are the instruction's, and these select its row. -/
theorem decodeOfEncode : Obligations.DecodeOfEncode := by
  intro i hwf
  rw [decode, encode, fieldsOf_wordOf, decodeFields_fields hwf]

/-! ## IllegalWord by the fields of the word (R111) -/

theorem fieldsOf_op_toNat (w : Word) : (fieldsOf w).op.toNat = w.toNat / 2 ^ 26 := by
  have hlt : w.toNat / 2 ^ 26 < 2 ^ 6 := by omega
  rw [fieldsOf, BitVec.extractLsb'_toNat, Nat.shiftRight_eq_div_pow, Nat.mod_eq_of_lt hlt]

theorem fieldsOf_ft_toNat (w : Word) : (fieldsOf w).ft.toNat = w.toNat / 2 ^ 24 % 4 := by
  rw [fieldsOf, BitVec.extractLsb'_toNat, Nat.shiftRight_eq_div_pow]

theorem fieldsOf_rd_toNat (w : Word) : (fieldsOf w).rd.toNat = w.toNat / 2 ^ 19 % 32 := by
  rw [fieldsOf, BitVec.extractLsb'_toNat, Nat.shiftRight_eq_div_pow]

theorem fieldsOf_rs1_toNat (w : Word) : (fieldsOf w).rs1.toNat = w.toNat / 2 ^ 14 % 32 := by
  rw [fieldsOf, BitVec.extractLsb'_toNat, Nat.shiftRight_eq_div_pow]

theorem fieldsOf_rs2_toNat (w : Word) : (fieldsOf w).rs2.toNat = w.toNat / 2 ^ 9 % 32 := by
  rw [fieldsOf, BitVec.extractLsb'_toNat, Nat.shiftRight_eq_div_pow]

theorem fieldsOf_imm_toNat (w : Word) : (fieldsOf w).imm.toNat = w.toNat % 512 := by
  rw [fieldsOf, BitVec.extractLsb'_toNat, Nat.shiftRight_zero]

/-- The fields format `fmt` does not use are zero (R115). -/
def UnusedZero (f : Fields) (fmt : Format) : Prop := fmt.unusedZero f.rd.toNat f.rs1.toNat f.rs2.toNat f.imm.toNat

/-- The word's opcode is `n` and its ft is `m`. -/
def AtRow (w : Word) (n m : Nat) : Prop := (fieldsOf w).op.toNat = n ∧ (fieldsOf w).ft.toNat = m

theorem illegalWord_of_formatOf_none {w : Word} (h : formatOf (fieldsOf w).op.toNat = none) : IllegalWord w := by
  rw [fieldsOf_op_toNat] at h
  simp only [IllegalWord, h]

theorem illegalWord_iff {w : Word} {n m : Nat} {fmt : Format} (hat : AtRow w n m) (hfmt : formatOf n = some fmt) :
    IllegalWord w ↔ ftAdmitted n m = false ∨ ¬ UnusedZero (fieldsOf w) fmt ∨
      (n = 0x2E ∧ coefCount m ≤ (fieldsOf w).imm.toNat) := by
  obtain ⟨rfl, rfl⟩ := hat
  rw [fieldsOf_op_toNat] at hfmt
  simp only [IllegalWord, UnusedZero, hfmt, fieldsOf_op_toNat, fieldsOf_ft_toNat, fieldsOf_rd_toNat, fieldsOf_rs1_toNat,
    fieldsOf_rs2_toNat, fieldsOf_imm_toNat]

/-- R118 (b), for any format. -/
theorem illegalWord_of_ft {w : Word} {n m : Nat} (hat : AtRow w n m) (hft : ftAdmitted n m = false) :
    IllegalWord w := by
  cases hfmt : formatOf n with
  | none => exact illegalWord_of_formatOf_none (hat.1 ▸ hfmt)
  | some fmt => exact (illegalWord_iff hat hfmt).2 (.inl hft)

/-! ## What the decoder's answer has to be -/

/-- `d` is the right answer for `w`: a well-formed instruction whose word is `w`, or a refusal of an illegal word. -/
def IsDecoding (w : Word) : Decoded → Prop
  | .ok i => encode i = w ∧ i.wf = true ∧ ¬ IllegalWord w
  | .illegal _ => IllegalWord w

/-- Row `(n, m)` of the opcode map is legal, of format `fmt`, and not COEF's, the one with a bound on its index. -/
abbrev PlainRow (n m : Nat) (fmt : Format) : Prop := formatOf n = some fmt ∧ ftAdmitted n m = true ∧ n ≠ 0x2E

theorem wf_of_immBound {i : Instr} (h : i.immBound = 512) : i.wf = true :=
  decide_eq_true (h ▸ i.imm.isLt)

theorem encode_eq_of_fields {w : Word} {i : Instr} (h : i.fields = fieldsOf w) : encode i = w := by
  rw [encode, h, wordOf_fieldsOf]

theorem fieldsOf_eq {w : Word} {n m : Nat} (hat : AtRow w n m) :
    fieldsOf w = ⟨BitVec.ofNat 6 n, BitVec.ofNat 2 m, (fieldsOf w).rd, (fieldsOf w).rs1, (fieldsOf w).rs2,
      (fieldsOf w).imm⟩ := by
  obtain ⟨rfl, rfl⟩ := hat
  simp only [BitVec.ofNat_toNat, BitVec.setWidth_eq]

/-- The word of `i` is in row `(n, m)` and has these operand fields; its immediate has no bound of its own. -/
abbrev InRow (n m : Nat) (rd rs1 rs2 : RegIdx) (imm : Imm9) (i : Instr) : Prop :=
  i.fields = ⟨.ofNat 6 n, .ofNat 2 m, rd, rs1, rs2, imm⟩ ∧ i.immBound = 512

/-! ## The formats (R115): every field that is not an operand has to be zero

At a row of the opcode map `n` and `m` are numerals, so the default proofs below evaluate the tables and the encoder. -/

section Formats
variable {w : Word} {n m : Nat}

/-- A format's check `c` is that its unused fields are zero, and in a plain row nothing else can be wrong. -/
theorem isDecoding_ite {fmt : Format} {c : Prop} [Decidable c] {i : Instr} {rd rs1 rs2 : RegIdx} {imm : Imm9}
    (hat : AtRow w n m) (hrow : PlainRow n m fmt) (hi : InRow n m rd rs1 rs2 imm i)
    (hz : c → (fieldsOf w).rd = rd ∧ (fieldsOf w).rs1 = rs1 ∧ (fieldsOf w).rs2 = rs2 ∧ (fieldsOf w).imm = imm)
    (hc : c ↔ UnusedZero (fieldsOf w) fmt := by simp [UnusedZero, Format.unusedZero, BitVec.toNat_eq]) :
    IsDecoding w (if c then .ok i else .illegal .unusedField) := by
  obtain ⟨hfmt, hft, hcoef⟩ := hrow
  obtain ⟨hfields, hbound⟩ := hi
  have hill : IllegalWord w ↔ ¬ c := by simp [illegalWord_iff hat hfmt, hft, hcoef, hc]
  split
  case isTrue h =>
    obtain ⟨hrd, hrs1, hrs2, himm⟩ := hz h
    refine ⟨encode_eq_of_fields ?_, wf_of_immBound hbound, fun hw => hill.1 hw h⟩
    rw [hfields, fieldsOf_eq hat, hrd, hrs1, hrs2, himm]
  case isFalse h => exact hill.2 h

theorem isDecoding_fmtN {i : Instr} (hat : AtRow w n m)
    (hrow : PlainRow n m .n := by decide)
    (hi : InRow n m 0 0 0 0 i := by exact ⟨rfl, rfl⟩) :
    IsDecoding w ((fieldsOf w).fmtN i) :=
  isDecoding_ite hat hrow hi fun ⟨hrd, hrs1, hrs2, himm⟩ => ⟨hrd, hrs1, hrs2, himm⟩

theorem isDecoding_fmtJ {mk : Imm9 → Instr} (hat : AtRow w n m)
    (hrow : PlainRow n m .j := by decide)
    (hmk : ∀ imm, InRow n m 0 0 0 imm (mk imm) := by exact fun _ => ⟨rfl, rfl⟩) :
    IsDecoding w ((fieldsOf w).fmtJ mk) :=
  isDecoding_ite hat hrow (hmk _) fun ⟨hrd, hrs1, hrs2⟩ => ⟨hrd, hrs1, hrs2, rfl⟩

theorem isDecoding_fmtRD {mk : RegIdx → Instr} (hat : AtRow w n m)
    (hrow : PlainRow n m .rd := by decide)
    (hmk : ∀ rd, InRow n m rd 0 0 0 (mk rd) := by exact fun _ => ⟨rfl, rfl⟩) :
    IsDecoding w ((fieldsOf w).fmtRD mk) :=
  isDecoding_ite hat hrow (hmk _) fun ⟨hrs1, hrs2, himm⟩ => ⟨rfl, hrs1, hrs2, himm⟩

theorem isDecoding_fmtRDS {mk : RegIdx → RegIdx → Instr} (hat : AtRow w n m)
    (hrow : PlainRow n m .rds := by decide)
    (hmk : ∀ rd rs1, InRow n m rd rs1 0 0 (mk rd rs1) := by exact fun _ _ => ⟨rfl, rfl⟩) :
    IsDecoding w ((fieldsOf w).fmtRDS mk) :=
  isDecoding_ite hat hrow (hmk _ _) fun ⟨hrs2, himm⟩ => ⟨rfl, rfl, hrs2, himm⟩

theorem isDecoding_fmtRDSS {mk : RegIdx → RegIdx → RegIdx → Instr} (hat : AtRow w n m)
    (hrow : PlainRow n m .rdss := by decide)
    (hmk : ∀ rd rs1 rs2, InRow n m rd rs1 rs2 0 (mk rd rs1 rs2) := by exact fun _ _ _ => ⟨rfl, rfl⟩) :
    IsDecoding w ((fieldsOf w).fmtRDSS mk) :=
  isDecoding_ite hat hrow (hmk _ _ _) fun himm => ⟨rfl, rfl, rfl, himm⟩

theorem isDecoding_fmtRDSI {mk : RegIdx → RegIdx → Imm9 → Instr} (hat : AtRow w n m)
    (hrow : PlainRow n m .rdsi := by decide)
    (hmk : ∀ rd rs1 imm, InRow n m rd rs1 0 imm (mk rd rs1 imm) := by exact fun _ _ _ => ⟨rfl, rfl⟩) :
    IsDecoding w ((fieldsOf w).fmtRDSI mk) :=
  isDecoding_ite hat hrow (hmk _ _ _) fun hrs2 => ⟨rfl, rfl, hrs2, rfl⟩

theorem isDecoding_fmtS {mk : RegIdx → Instr} (hat : AtRow w n m)
    (hrow : PlainRow n m .s := by decide)
    (hmk : ∀ rs1, InRow n m 0 rs1 0 0 (mk rs1) := by exact fun _ => ⟨rfl, rfl⟩) :
    IsDecoding w ((fieldsOf w).fmtS mk) :=
  isDecoding_ite hat hrow (hmk _) fun ⟨hrd, hrs2, himm⟩ => ⟨hrd, rfl, hrs2, himm⟩

theorem isDecoding_fmtSS {mk : RegIdx → RegIdx → Instr} (hat : AtRow w n m)
    (hrow : PlainRow n m .ss := by decide)
    (hmk : ∀ rs1 rs2, InRow n m 0 rs1 rs2 0 (mk rs1 rs2) := by exact fun _ _ => ⟨rfl, rfl⟩) :
    IsDecoding w ((fieldsOf w).fmtSS mk) :=
  isDecoding_ite hat hrow (hmk _ _) fun ⟨hrd, himm⟩ => ⟨hrd, rfl, rfl, himm⟩

theorem isDecoding_fmtLD {mk : RegIdx → Imm9 → Instr} (hat : AtRow w n m)
    (hrow : PlainRow n m .ld := by decide)
    (hmk : ∀ rd g, InRow n m rd 0 0 g (mk rd g) := by exact fun _ _ => ⟨rfl, rfl⟩) :
    IsDecoding w ((fieldsOf w).fmtLD mk) :=
  isDecoding_ite hat hrow (hmk _ _) fun ⟨hrs1, hrs2⟩ => ⟨rfl, hrs1, hrs2, rfl⟩

theorem isDecoding_fmtST {mk : Imm9 → RegIdx → Instr} (hat : AtRow w n m)
    (hrow : PlainRow n m .st := by decide)
    (hmk : ∀ g rs1, InRow n m 0 rs1 0 g (mk g rs1) := by exact fun _ _ => ⟨rfl, rfl⟩) :
    IsDecoding w ((fieldsOf w).fmtST mk) :=
  isDecoding_ite hat hrow (hmk _ _) fun ⟨hrd, hrs2⟩ => ⟨hrd, rfl, hrs2, rfl⟩

/-- COEF's rows: the index has its level's bound besides (R117, R118 (d)). -/
theorem isDecoding_fmtCoef {k : Nat} {mk : RegIdx → RegIdx → Imm9 → Instr} (hat : AtRow w 0x2E m)
    (hk : coefCount m = k := by decide)
    (hfields : ∀ rd rs1 imm, (mk rd rs1 imm).fields = ⟨.ofNat 6 0x2E, .ofNat 2 m, rd, rs1, 0, imm⟩ := by
      exact fun _ _ _ => rfl)
    (hwf : ∀ rd rs1 imm, (mk rd rs1 imm).wf = decide (imm.toNat < k) := by exact fun _ _ _ => rfl) :
    IsDecoding w ((fieldsOf w).fmtCoef k mk) := by
  have hill : IllegalWord w ↔ (fieldsOf w).rs2 ≠ 0 ∨ k ≤ (fieldsOf w).imm.toNat := by
    simp [illegalWord_iff hat rfl, hk, ftAdmitted, UnusedZero, Format.unusedZero, BitVec.toNat_eq]
  unfold Fields.fmtCoef
  split
  case isTrue hrs2 =>
    split
    case isTrue hlt =>
      refine ⟨encode_eq_of_fields ?_, (hwf _ _ _).trans (decide_eq_true hlt), fun hw => ?_⟩
      · rw [fieldsOf_eq hat, hfields, hrs2]
      · exact (hill.1 hw).elim (· hrs2) hlt.not_ge
    case isFalse hge => exact hill.2 (.inr (Nat.le_of_not_lt hge))
  case isFalse hrs2 => exact hill.2 (.inl hrs2)

end Formats

/-! ## The readings of ft (R112) -/

section Readings
variable {w : Word} {n : Nat}

theorem ft_cases (w : Word) : (fieldsOf w).ft.toNat = 0 ∨ (fieldsOf w).ft.toNat = 1 ∨ (fieldsOf w).ft.toNat = 2 ∨
    (fieldsOf w).ft.toNat = 3 := by
  have hlt := (fieldsOf w).ft.isLt
  omega

theorem isDecoding_illegalFt {m : Nat} (hat : AtRow w n m) (hft : ftAdmitted n m = false := by decide) :
    IsDecoding w (.illegal .ft) :=
  illegalWord_of_ft hat hft

theorem isDecoding_byLevel {fp fp2 fp6 fp12 : Decoded} (hop : (fieldsOf w).op.toNat = n)
    (hfp : AtRow w n 0 → IsDecoding w fp) (hfp2 : AtRow w n 1 → IsDecoding w fp2)
    (hfp6 : AtRow w n 2 → IsDecoding w fp6) (hfp12 : AtRow w n 3 → IsDecoding w fp12) :
    IsDecoding w ((fieldsOf w).byLevel fp fp2 fp6 fp12) := by
  rcases ft_cases w with hft | hft | hft | hft <;> rw [Fields.byLevel, hft]
  · exact hfp ⟨hop, hft⟩
  · exact hfp2 ⟨hop, hft⟩
  · exact hfp6 ⟨hop, hft⟩
  · exact hfp12 ⟨hop, hft⟩

theorem isDecoding_byGroup {g1 g2 : Decoded} (hop : (fieldsOf w).op.toNat = n)
    (hg1 : AtRow w n 0 → IsDecoding w g1) (hg2 : AtRow w n 1 → IsDecoding w g2)
    (hadm : ftAdmitted n 2 = false ∧ ftAdmitted n 3 = false := by decide) :
    IsDecoding w ((fieldsOf w).byGroup g1 g2) := by
  rcases ft_cases w with hft | hft | hft | hft <;> rw [Fields.byGroup, hft]
  · exact hg1 ⟨hop, hft⟩
  · exact hg2 ⟨hop, hft⟩
  · exact isDecoding_illegalFt ⟨hop, hft⟩ hadm.1
  · exact isDecoding_illegalFt ⟨hop, hft⟩ hadm.2

theorem isDecoding_noFt {d : Decoded} (hop : (fieldsOf w).op.toNat = n) (hd : AtRow w n 0 → IsDecoding w d)
    (hadm : ∀ m < 4, m ≠ 0 → ftAdmitted n m = false := by decide) : IsDecoding w ((fieldsOf w).noFt d) := by
  unfold Fields.noFt
  split
  case isTrue hft => exact hd ⟨hop, congrArg BitVec.toNat hft⟩
  case isFalse hft =>
    have hne : (fieldsOf w).ft.toNat ≠ 0 := fun h => hft (BitVec.eq_of_toNat_eq h)
    exact isDecoding_illegalFt ⟨hop, rfl⟩ (hadm _ (fieldsOf w).ft.isLt hne)

end Readings

/-! ## The opcode map (R116) -/

/-- Along the opcode map, each row by its reading of ft and its format; an opcode of no row has no format. -/
theorem isDecoding_decode (w : Word) : IsDecoding w (decode w) := by
  unfold decode decodeFields
  split
  -- halt (0x01), nop (0x02), mlstep (0x19), mldone (0x1E)
  case h_1 hop | h_2 hop | h_20 hop | h_25 hop =>
    exact isDecoding_noFt hop isDecoding_fmtN
  -- jmp (0x03), bt (0x04), bf (0x05)
  case h_3 hop | h_4 hop | h_5 hop =>
    exact isDecoding_noFt hop isDecoding_fmtJ
  -- mov (0x06), fexp (0x1F), mulxi (0x29)
  case h_6 hop | h_26 hop | h_36 hop =>
    exact isDecoding_noFt hop isDecoding_fmtRDS
  -- clr (0x07), mlrdf (0x1B), mlrdt (0x1C), mlrdl (0x1D)
  case h_7 hop | h_22 hop | h_23 hop | h_24 hop =>
    exact isDecoding_noFt hop isDecoding_fmtRD
  -- eq (0x08), mlinit (0x18)
  case h_8 hop | h_19 hop =>
    exact isDecoding_noFt hop isDecoding_fmtSS
  -- zero (0x09), one (0x0A)
  case h_9 hop | h_10 hop =>
    exact isDecoding_byLevel hop isDecoding_fmtRD isDecoding_fmtRD isDecoding_fmtRD isDecoding_fmtRD
  -- ld (0x10)
  case h_11 hop =>
    exact isDecoding_byLevel hop isDecoding_fmtLD isDecoding_fmtLD isDecoding_fmtLD isDecoding_fmtLD
  -- st (0x11)
  case h_12 hop =>
    exact isDecoding_byLevel hop isDecoding_fmtST isDecoding_fmtST isDecoding_fmtST isDecoding_fmtST
  -- ldg1 (0x12), ldg2 (0x13), ldsc (0x16)
  case h_13 hop | h_14 hop | h_17 hop =>
    exact isDecoding_noFt hop isDecoding_fmtLD
  -- stg1 (0x14), stg2 (0x15), stsc (0x17)
  case h_15 hop | h_16 hop | h_18 hop =>
    exact isDecoding_noFt hop isDecoding_fmtST
  -- miller (0x1A), mkfp2 (0x2D)
  case h_21 hop | h_40 hop =>
    exact isDecoding_noFt hop isDecoding_fmtRDSS
  -- add (0x20), sub (0x21), mul (0x23), pow (0x26)
  case h_27 hop | h_28 hop | h_30 hop | h_33 hop =>
    exact isDecoding_byLevel hop isDecoding_fmtRDSS isDecoding_fmtRDSS isDecoding_fmtRDSS isDecoding_fmtRDSS
  -- neg (0x22), sqr (0x24), inv (0x25)
  case h_29 hop | h_31 hop | h_32 hop =>
    exact isDecoding_byLevel hop isDecoding_fmtRDS isDecoding_fmtRDS isDecoding_fmtRDS isDecoding_fmtRDS
  -- conj (0x27)
  case h_34 hop =>
    exact isDecoding_byLevel hop isDecoding_illegalFt isDecoding_fmtRDS isDecoding_illegalFt isDecoding_fmtRDS
  -- frob (0x28)
  case h_35 hop =>
    exact isDecoding_byLevel hop isDecoding_fmtRDSI isDecoding_fmtRDSI isDecoding_fmtRDSI isDecoding_fmtRDSI
  -- iszero (0x2A), isone (0x2B)
  case h_37 hop | h_38 hop =>
    exact isDecoding_byLevel hop isDecoding_fmtS isDecoding_fmtS isDecoding_fmtS isDecoding_fmtS
  -- emb (0x2C)
  case h_39 hop =>
    exact isDecoding_byLevel hop isDecoding_illegalFt isDecoding_fmtRDS isDecoding_fmtRDS isDecoding_fmtRDS
  -- coef (0x2E)
  case h_41 hop =>
    exact isDecoding_byLevel hop isDecoding_fmtCoef isDecoding_fmtCoef isDecoding_fmtCoef isDecoding_fmtCoef
  -- padd (0x30), pmul (0x33)
  case h_42 hop | h_45 hop =>
    exact isDecoding_byGroup hop isDecoding_fmtRDSS isDecoding_fmtRDSS
  -- pdbl (0x31), pneg (0x32), ptoj (0x34), ptoa (0x35)
  case h_43 hop | h_44 hop | h_46 hop | h_47 hop =>
    exact isDecoding_byGroup hop isDecoding_fmtRDS isDecoding_fmtRDS
  -- isinf (0x36)
  case h_48 hop =>
    exact isDecoding_byGroup hop isDecoding_fmtS isDecoding_fmtS
  -- pinf (0x37)
  case h_49 hop =>
    exact isDecoding_byGroup hop isDecoding_fmtRD isDecoding_fmtRD
  case h_50 =>
    -- every opcode that `formatOf` lists is excluded here
    refine illegalWord_of_formatOf_none ?_
    simp_all [formatOf]

theorem encode_of_decode_ok {w : Word} {i : Instr} (hdec : decode w = .ok i) :
    encode i = w ∧ i.wf = true ∧ ¬ IllegalWord w := by
  have hright := isDecoding_decode w
  rwa [hdec] at hright

theorem illegalWord_of_decode_illegal {w : Word} {why : Illegal} (hdec : decode w = .illegal why) : IllegalWord w := by
  have hright := isDecoding_decode w
  rwa [hdec] at hright

/-- Settles O2: an instruction is the decoder's answer only for its own word, and only if it is well formed. -/
theorem encodeOfDecode : Obligations.EncodeOfDecode := by
  intro w i hdec
  obtain ⟨hword, hwf, -⟩ := encode_of_decode_ok hdec
  exact ⟨hword, hwf⟩

/-- Settles O3: each of the decoder's two answers settles whether the word is illegal, and so one clause. -/
theorem illegalWords : Obligations.IllegalWords := by
  intro w
  cases hdec : decode w with
  | ok i =>
    obtain ⟨-, -, hlegal⟩ := encode_of_decode_ok hdec
    exact ⟨fun hill => absurd hill hlegal, fun _ => ⟨i, rfl⟩⟩
  | illegal why => exact ⟨fun _ => ⟨why, rfl⟩, fun hlegal => absurd (illegalWord_of_decode_illegal hdec) hlegal⟩

/-- Settles O4: the decoder runs on each word. -/
theorem sampleWords : Obligations.SampleWords := by
  unfold Obligations.SampleWords
  decide

end Sys2Proof.Machine
end

section
/-! The checks of an instruction's operands (40_control.md R158, 60_exceptions.md R483, R484, R494): what the exception
is, read off a list of sources and accepted tags, and that every instruction raises it for its list in `accessOf`. -/

namespace Sys2Proof.Machine

/-! ## The exception that a list of sources calls for -/

/-- The two passes of R158 over the sources: the first that is EMPTY, then the first whose tag is not accepted. -/
def operandExc (s : State) (sources : List (RegIdx × List Tag)) : Option Exc :=
  match sources.find? fun p => decide (s.reg p.1 = .empty) with
  | some p => some (.emptyRead p.1)
  | none => (sources.find? fun p => decide ((s.reg p.1).tag ∉ p.2)).map fun p => .typeMismatch p.1

section Lists
variable {s : State} {sources before after : List (RegIdx × List Tag)} {r : RegIdx} {accepted : List Tag}

theorem operandExc_of_empty (hsources : sources = before ++ (r, accepted) :: after)
    (hbefore : ∀ p ∈ before, s.reg p.1 ≠ .empty) (hr : s.reg r = .empty) :
    operandExc s sources = some (.emptyRead r) := by
  have hfind : sources.find? (fun p => decide (s.reg p.1 = .empty)) = some (r, accepted) :=
    List.find?_eq_some_iff_append.2 ⟨decide_eq_true hr, before, after, hsources, by simpa using hbefore⟩
  rw [operandExc, hfind]

theorem operandExc_of_tag (hsources : sources = before ++ (r, accepted) :: after)
    (hnonempty : ∀ p ∈ sources, s.reg p.1 ≠ .empty) (hbefore : ∀ p ∈ before, (s.reg p.1).tag ∈ p.2)
    (hr : (s.reg r).tag ∉ accepted) : operandExc s sources = some (.typeMismatch r) := by
  have hnone : sources.find? (fun p => decide (s.reg p.1 = .empty)) = none :=
    List.find?_eq_none.2 (by simpa using hnonempty)
  have hfind : sources.find? (fun p => decide ((s.reg p.1).tag ∉ p.2)) = some (r, accepted) :=
    List.find?_eq_some_iff_append.2 ⟨decide_eq_true hr, before, after, hsources, by simpa using hbefore⟩
  rw [operandExc, hnone, hfind]
  rfl

end Lists

/-! ## Reading one and two sources -/

/-- Of the values that are not EMPTY, `want` takes those with a tag in `accepted` and no other. -/
def Takes {α : Type} (want : RegVal → Option α) (accepted : List Tag) : Prop :=
  ∀ v : RegVal, v ≠ .empty → (want v = none ↔ v.tag ∉ accepted)

@[simp] theorem takes_some : Takes some valueTags := by intro v hv; cases v <;> simp_all [valueTags, RegVal.tag]
@[simp] theorem takes_asFp : Takes asFp [.fp] := by intro v _; cases v <;> simp [asFp, RegVal.tag]
@[simp] theorem takes_asFp2 : Takes asFp2 [.fp2] := by intro v _; cases v <;> simp [asFp2, RegVal.tag]
@[simp] theorem takes_asFp6 : Takes asFp6 [.fp6] := by intro v _; cases v <;> simp [asFp6, RegVal.tag]
@[simp] theorem takes_asFp12 : Takes asFp12 [.fp12] := by intro v _; cases v <;> simp [asFp12, RegVal.tag]
@[simp] theorem takes_asSc : Takes asSc [.sc] := by intro v _; cases v <;> simp [asSc, RegVal.tag]
@[simp] theorem takes_asG1Aff : Takes asG1Aff [.g1] := by intro v _; cases v <;> simp [asG1Aff, RegVal.tag]
@[simp] theorem takes_asG1Jac : Takes asG1Jac [.g1j] := by intro v _; cases v <;> simp [asG1Jac, RegVal.tag]
@[simp] theorem takes_asG1 : Takes asG1 [.g1, .g1j] := by intro v _; cases v <;> simp [asG1, RegVal.tag]
@[simp] theorem takes_asG2Aff : Takes asG2Aff [.g2] := by intro v _; cases v <;> simp [asG2Aff, RegVal.tag]
@[simp] theorem takes_asG2Jac : Takes asG2Jac [.g2j] := by intro v _; cases v <;> simp [asG2Jac, RegVal.tag]
@[simp] theorem takes_asG2 : Takes asG2 [.g2, .g2j] := by intro v _; cases v <;> simp [asG2, RegVal.tag]
@[simp] theorem takes_asUpToFp2 : Takes asUpToFp2 [.fp, .fp2] := by intro v _; cases v <;> simp [asUpToFp2, RegVal.tag]
@[simp] theorem takes_asUpToFp6 : Takes asUpToFp6 [.fp, .fp2, .fp6] := by
  intro v _; cases v <;> simp [asUpToFp6, RegVal.tag]

section Reading
variable {α β : Type} {s : State} {r1 r2 : RegIdx} {want1 : RegVal → Option α} {want2 : RegVal → Option β}
  {accepted1 accepted2 : List Tag} {e : Exc}

/-- `src` raises what its one source calls for. -/
theorem src_error (h : operandExc s [(r1, accepted1)] = some e) (hwant : Takes want1 accepted1 := by simp) :
    src s r1 want1 = .error e := by
  obtain ⟨hr, hsrc⟩ | ⟨hr, hnone, hsrc⟩ | ⟨a, hr, ha, -⟩ := src_cases s r1 want1
  · simpa [operandExc, hr, hsrc] using h
  · have htag := (hwant _ hr).1 hnone
    simpa [operandExc, hr, htag, hsrc] using h
  · have htag : (s.reg r1).tag ∈ accepted1 := by simpa [ha] using hwant _ hr
    simp [operandExc, hr, htag] at h

/-- `srcs` raises what its two sources call for. -/
theorem srcs_error (h : operandExc s [(r1, accepted1), (r2, accepted2)] = some e)
    (hwant1 : Takes want1 accepted1 := by simp) (hwant2 : Takes want2 accepted2 := by simp) :
    srcs s r1 want1 r2 want2 = .error e := by
  obtain ⟨hr1, hsrcs⟩ | ⟨hr1, hr2, hsrcs⟩ | ⟨hr1, hr2, hnone, hsrcs⟩ | ⟨hr1, hr2, ⟨a, ha⟩, hnone, hsrcs⟩ |
    ⟨a, b, hr1, hr2, ha, hb, -⟩ := srcs_cases s r1 want1 r2 want2
  · simpa [operandExc, hr1, hsrcs] using h
  · simpa [operandExc, hr1, hr2, hsrcs] using h
  · have htag1 := (hwant1 _ hr1).1 hnone
    simpa [operandExc, hr1, hr2, htag1, hsrcs] using h
  · have htag1 : (s.reg r1).tag ∈ accepted1 := by simpa [ha] using hwant1 _ hr1
    have htag2 := (hwant2 _ hr2).1 hnone
    simpa [operandExc, hr1, hr2, htag1, htag2, hsrcs] using h
  · have htag1 : (s.reg r1).tag ∈ accepted1 := by simpa [ha] using hwant1 _ hr1
    have htag2 : (s.reg r2).tag ∈ accepted2 := by simpa [hb] using hwant2 _ hr2
    simp [operandExc, hr1, hr2, htag1, htag2] at h

/-- EQ accepts every tag; that its operands are of one kind is a check of its own (40_control.md R157). -/
theorem eqFlag_error (h : operandExc s [(r1, valueTags), (r2, valueTags)] = some e) : eqFlag s r1 r2 = .error e := by
  have hsrcs : srcs s r1 some r2 some = .error e := srcs_error h
  obtain ⟨hr1, heq⟩ | ⟨hr1, hr2, heq⟩ | ⟨hr1, hr2, -, -⟩ | ⟨hr1, hr2, -, -⟩ := eqFlag_cases s r1 r2
  · simpa [srcs, hr1, heq] using hsrcs
  · simpa [srcs, hr1, hr2, heq] using hsrcs
  all_goals simp [srcs_ok hr1 hr2 rfl rfl] at hsrcs

end Reading

/-! ## Committing an operand's exception -/

section Committing
variable {α : Type} {s : State} {rd : RegIdx} {e : Exc}

theorem commitReg_error {r : Except Exc RegVal} (h : r = .error e) :
    commitReg rd r s = .next (s.faulted e.code e.info) := by
  rw [h]; rfl

theorem commitReg_bind_error {r : Except Exc α} (f : α → Except Exc RegVal) (h : r = .error e) :
    commitReg rd (r.bind f) s = .next (s.faulted e.code e.info) := by
  rw [h]; rfl

theorem commitFlag_error {r : Except Exc Bool} (h : r = .error e) :
    commitFlag r s = .next (s.faulted e.code e.info) := by
  rw [h]; rfl

theorem commitFlag_map_error {r : Except Exc α} (f : α → Bool) (h : r = .error e) :
    commitFlag (r.map f) s = .next (s.faulted e.code e.info) := by
  rw [h]; rfl

theorem commitMl_map_error {r : Except Exc α} (f : α → Miller) (h : r = .error e) :
    commitMl (r.map f) s = .next (s.faulted e.code e.info) := by
  rw [h]; rfl

/-- A store checks its operand before its granules (60_exceptions.md R487). -/
theorem commitDmem_store_error {g n : Nat} {rs1 : RegIdx} {want : RegVal → Option α} {words : α → List Nat}
    (h : src s rs1 want = .error e) :
    commitDmem (storeTo s g rs1 want n words) s = .next (s.faulted e.code e.info) := by
  rw [storeTo_eq, h]; rfl

theorem exec_miller_operand_error {rs1 rs2 : RegIdx} (h : srcs s rs1 asG2 rs2 asG1 = .error e) :
    exec (.miller rd rs1 rs2) s = .next (s.faulted e.code e.info) := by
  change execMiller rd rs1 rs2 s = _
  rw [execMiller, h]; rfl

end Committing

/-! ## The instructions -/

/-- Every instruction raises what its sources call for, before anything else: by the operation that reads its sources
and the one that commits its answer. -/
theorem exec_of_operandExc {i : Instr} {s : State} {e : Exc} (h : operandExc s (accessOf i).sources = some e) :
    exec i s = .next (s.faulted e.code e.info) := by
  cases i with
  | mov => exact commitReg_error (src_error h)
  | negFp | negFp2 | negFp6 | negFp12 | sqrFp | sqrFp2 | sqrFp6 | sqrFp12 | conjFp2 | conjFp12 | frobFp | frobFp2
  | frobFp6 | frobFp12 | mulxi | embFp2 | embFp6 | embFp12 | coefFp | coefFp2 | coefFp6 | coefFp12 | pdblG1 | pdblG2
  | pnegG1 | pnegG2 | ptojG1 | ptojG2 | ptoaG1 | ptoaG2 => exact commitReg_map_error _ (src_error h)
  | invFp | invFp2 | invFp6 | invFp12 | fexp => exact commitReg_bind_error _ (src_error h)
  | iszeroFp | iszeroFp2 | iszeroFp6 | iszeroFp12 | isoneFp | isoneFp2 | isoneFp6 | isoneFp12 | isinfG1 | isinfG2 =>
    exact commitFlag_map_error _ (src_error h)
  | stFp | stFp2 | stFp6 | stFp12 | stg1 | stg2 | stsc => exact commitDmem_store_error (src_error h)
  | addFp | addFp2 | addFp6 | addFp12 | subFp | subFp2 | subFp6 | subFp12 | mulFp | mulFp2 | mulFp6 | mulFp12 | powFp
  | powFp2 | powFp6 | powFp12 | mkfp2 | paddG1 | paddG2 | pmulG1 | pmulG2 =>
    exact commitReg_map_error _ (srcs_error h)
  | eq => exact commitFlag_error (eqFlag_error h)
  | mlinit => exact commitMl_map_error _ (srcs_error h)
  | miller => exact exec_miller_operand_error (srcs_error h)
  -- the others have no sources
  | _ => cases h

theorem info_emptyRead (r : RegIdx) : (Exc.emptyRead r).info = BitVec.ofNat 32 r.toNat := (BitVec.ofNat_toNat 32 r).symm
theorem info_typeMismatch (r : RegIdx) : (Exc.typeMismatch r).info = BitVec.ofNat 32 r.toNat :=
  (BitVec.ofNat_toNat 32 r).symm

/-- Settles O11: either hypothesis says which exception the sources call for, and the instruction raises it. -/
theorem operandChecks : Obligations.OperandChecks := by
  intro i s before after r accepted hsources
  refine ⟨fun hbefore hr => ?_, fun hnonempty hbefore hr => ?_⟩
  · rw [← info_emptyRead]
    exact exec_of_operandExc (operandExc_of_empty hsources hbefore hr)
  · rw [← info_typeMismatch]
    exact exec_of_operandExc (operandExc_of_tag hsources hnonempty hbefore hr)

end Sys2Proof.Machine
end

section
/-! Control transfer, moves and EQ (40_control.md R150 to R157). -/

namespace Sys2Proof.Machine

/-! ## Equality by coefficients -/

/-- Two lists of one length are equal where their coefficients are the same integers. -/
theorem coeffs_eq_iff {as bs : List Fp} {n : Nat} (ha : as.length = n) (hb : bs.length = n) :
    as = bs ↔ ∀ k < n, (coeffAt as k).val = (coeffAt bs k).val := by
  refine ⟨fun h k _ => h ▸ rfl, fun h => List.ext_getElem (ha.trans hb.symm) fun k hka hkb => Fp.ext_val ?_⟩
  have hval := h k (ha ▸ hka)
  rwa [coeffAt, coeffAt, List.getD_eq_getElem _ _ hka, List.getD_eq_getElem _ _ hkb] at hval

theorem fp2_coeffs_injective : Function.Injective Fp2.coeffs := by
  intro a b h
  obtain ⟨h0, h1, -⟩ : a.c0 = b.c0 ∧ a.c1 = b.c1 ∧ True := by simpa [Fp2.coeffs] using h
  exact Fp2.ext_coeffs h0 h1

theorem fp6_coeffs_injective : Function.Injective Fp6.coeffs := by
  intro a b h
  obtain ⟨h01, h2⟩ := List.append_inj h rfl
  obtain ⟨h0, h1⟩ := List.append_inj h01 rfl
  exact Fp6.ext_coeffs (fp2_coeffs_injective h0) (fp2_coeffs_injective h1) (fp2_coeffs_injective h2)

theorem fp12_coeffs_injective : Function.Injective Fp12.coeffs := by
  intro a b h
  obtain ⟨h0, h1⟩ := List.append_inj h rfl
  exact Fp12.ext_coeffs (fp6_coeffs_injective h0) (fp6_coeffs_injective h1)

theorem fp2_eq_iff (a b : Fp2) : a = b ↔ ∀ k < 2, (coeffAt a.coeffs k).val = (coeffAt b.coeffs k).val :=
  fp2_coeffs_injective.eq_iff.symm.trans (coeffs_eq_iff a.length_coeffs b.length_coeffs)

theorem fp6_eq_iff (a b : Fp6) : a = b ↔ ∀ k < 6, (coeffAt a.coeffs k).val = (coeffAt b.coeffs k).val :=
  fp6_coeffs_injective.eq_iff.symm.trans (coeffs_eq_iff a.length_coeffs b.length_coeffs)

theorem fp12_eq_iff (a b : Fp12) : a = b ↔ ∀ k < 12, (coeffAt a.coeffs k).val = (coeffAt b.coeffs k).val :=
  fp12_coeffs_injective.eq_iff.symm.trans (coeffs_eq_iff a.length_coeffs b.length_coeffs)

/-! ## EQ -/

/-- A point's form changes neither its kind nor its value. -/
theorem kind_ofG1 (m n : Form) (p q : G1) : (ofG1 m p).tag.kind = (ofG1 n q).tag.kind := by cases m <;> cases n <;> rfl
theorem kind_ofG2 (m n : Form) (p q : G2) : (ofG2 m p).tag.kind = (ofG2 n q).tag.kind := by cases m <;> cases n <;> rfl
theorem sameValue_ofG1 (m n : Form) (p q : G1) : sameValue (ofG1 m p) (ofG1 n q) = decide (p = q) := by
  cases m <;> cases n <;> rfl
theorem sameValue_ofG2 (m n : Form) (p q : G2) : sameValue (ofG2 m p) (ofG2 n q) = decide (p = q) := by
  cases m <;> cases n <;> rfl

section Eq
variable {s : State} {rs1 rs2 : RegIdx}

/-- EQ of two values of one kind sets FLAG to `sameValue`, which decides `a = b`; `c` spells this equality out. -/
theorem exec_eq_of_sameKind {α : Type} [DecidableEq α] {v w : RegVal} {a b : α} {c : Prop} (hv : s.reg rs1 = v)
    (hw : s.reg rs2 = w) (hve : v ≠ .empty) (hwe : w ≠ .empty) (hkind : v.tag.kind = w.tag.kind)
    (hsame : sameValue v w = decide (a = b)) (hc : a = b ↔ c) :
    ∃ f : Bool, (f = true ↔ c) ∧ exec (.eq rs1 rs2) s = .next (s.setFlag f).advance := by
  subst hv hw
  have heq : eqFlag s rs1 rs2 = .ok (sameValue (s.reg rs1) (s.reg rs2)) := by simp [eqFlag, hve, hwe, hkind]
  refine ⟨sameValue (s.reg rs1) (s.reg rs2), by rw [hsame, decide_eq_true_iff, hc], ?_⟩
  change commitFlag (eqFlag s rs1 rs2) s = _
  rw [heq]; rfl

theorem exec_eq_of_kind_ne (h1 : s.reg rs1 ≠ .empty) (h2 : s.reg rs2 ≠ .empty)
    (hkind : (s.reg rs1).tag.kind ≠ (s.reg rs2).tag.kind) :
    exec (.eq rs1 rs2) s = .next (s.faulted 4 (BitVec.ofNat 32 rs2.toNat)) := by
  have heq : eqFlag s rs1 rs2 = .error (.typeMismatch rs2) := by simp [eqFlag, h1, h2, hkind]
  rw [← info_typeMismatch]
  exact commitFlag_error heq

end Eq

/-- Settles O18: at each kind `sameValue` decides equality, which is that of the coefficients, integers or points. -/
theorem eqResult : Obligations.EqResult := by
  intro s rs1 rs2
  refine ⟨fun a b ha hb => ?_, fun a b ha hb => ?_, fun a b ha hb => ?_, fun a b ha hb => ?_, fun j k hj hk => ?_,
    fun m n p q hp hq => ?_, fun m n p q hp hq => ?_, exec_eq_of_kind_ne⟩
  · exact exec_eq_of_sameKind ha hb nofun nofun rfl rfl (Fp.eq_iff_val a b)
  · exact exec_eq_of_sameKind ha hb nofun nofun rfl rfl (fp2_eq_iff a b)
  · exact exec_eq_of_sameKind ha hb nofun nofun rfl rfl (fp6_eq_iff a b)
  · exact exec_eq_of_sameKind ha hb nofun nofun rfl rfl (fp12_eq_iff a b)
  · exact exec_eq_of_sameKind hj hk nofun nofun rfl rfl BitVec.toNat_inj.symm
  · exact exec_eq_of_sameKind hp hq (ofG1_ne_empty m p) (ofG1_ne_empty n q) (kind_ofG1 m n p q)
      (sameValue_ofG1 m n p q) Iff.rfl
  · exact exec_eq_of_sameKind hp hq (ofG2_ne_empty m p) (ofG2_ne_empty n q) (kind_ofG2 m n p q)
      (sameValue_ofG2 m n p q) Iff.rfl

/-! ## Control transfer and moves -/

/-- Where a taken branch goes: its immediate, zero-extended to PC's width. -/
theorem goto_target (s : State) (target : Imm9) :
    s.goto (target.setWidth 10) = { s with pc := BitVec.ofNat 10 target.toNat } := by
  rw [BitVec.ofNat_toNat]; rfl

/-- Settles O17: each instruction's meaning, with the two values of FLAG for the branches. -/
theorem controlResults : Obligations.ControlResults := by
  intro s
  refine ⟨rfl, rfl, fun target => ⟨?_, ?_, ?_⟩, fun rd rs1 hr => ?_, fun rd => rfl⟩
  · exact congrArg Host.Outcome.next (goto_target s target)
  · change execBt target s = _
    cases hf : s.flag <;> simp [execBt, hf, goto_target, State.advance]
  · change execBf target s = _
    cases hf : s.flag <;> simp [execBf, hf, goto_target, State.advance]
  · change commitReg rd (src s rs1 some) s = _
    rw [src_ok hr rfl]; rfl

end Sys2Proof.Machine
end

section
/-! Round trips: a load of what the store of the same layout wrote (41_load_store.md R181 to R195). -/

namespace Sys2Proof.Machine

/-! ## Wire words of a point of the curve are read as that point (20_memory.md R95) -/

section Wire
variable {s : State} {g : Nat}

/-- The words that are read as O are the coordinates of no finite point of the curve; likewise of the twist. -/
theorem not_zero_of_onG1 {x y : Fp} (h : onG1 x y = true) : ¬ (x = Fp.zero ∧ y = Fp.zero) := by
  rintro ⟨rfl, rfl⟩
  exact absurd h (by decide)

theorem not_zero_of_onG2 {x y : Fp2} (h : onG2 x y = true) : ¬ (x = Fp2.zero ∧ y = Fp2.zero) := by
  rintro ⟨rfl, rfl⟩
  exact absurd h (by decide +kernel)

theorem g1Word_of_wire {p : G1} (hp : g1OnCurve p = true) (h : ∀ k < 2, word s (g + k) = (g1Wire p).getD k 0) :
    g1Word s g = .ok p := by
  have h0 := h 0 (by decide)
  have h1 := h 1 (by decide)
  cases p with
  | inf => exact (g1Word_of (x := Fp.zero) (y := Fp.zero) h0 h1).trans (if_pos ⟨rfl, rfl⟩)
  | aff x y => exact (g1Word_of h0 h1).trans ((if_neg (not_zero_of_onG1 hp)).trans (if_pos hp))

theorem g2Word_of_wire {p : G2} (hp : g2OnCurve p = true) (h : ∀ k < 4, word s (g + k) = (g2Wire p).getD k 0) :
    g2Word s g = .ok p := by
  have h0 := h 0 (by decide)
  have h1 := h 1 (by decide)
  have h2 := h 2 (by decide)
  have h3 := h 3 (by decide)
  cases p with
  | inf => exact (g2Word_of (x := Fp2.zero) (y := Fp2.zero) h0 h1 h2 h3).trans (if_pos ⟨rfl, rfl⟩)
  | aff x y => exact (g2Word_of h0 h1 h2 h3).trans ((if_neg (not_zero_of_onG2 hp)).trans (if_pos hp))

end Wire

/-- LDSC reads the word of a scalar as that scalar. -/
theorem exec_ldsc_of_word {s : State} {g : Imm9} {k : Scalar} (rd : RegIdx) (h : word s g.toNat = k.toNat) :
    exec (.ldsc rd g) s = .next (s.setReg rd (.sc k)).advance := by
  change execLdsc rd g s = _
  rw [execLdsc, h, BitVec.ofNat_toNat, BitVec.setWidth_eq]
  rfl

/-! ## A store and then a load -/

section RoundTrip
variable {α : Type} {s : State} {g n : Nat} {rs1 rd : RegIdx} {want : RegVal → Option α} {a : α}
  {load : State → Result} {v : RegVal}

/-- A store and then a load that puts `v` into its destination wherever it finds the stored words. -/
theorem commitDmem_store_then_load {words : α → List Nat} (hsrc : src s rs1 want = .ok a)
    (hg : g + n ≤ Config.granules) (hlen : (words a).length = n) (hlt : ∀ w ∈ words a, w < 2 ^ 256)
    (hload : ∀ t : State, (∀ k < n, word t (g + k) = (words a).getD k 0) →
      load t = .next (t.setReg rd v).advance) :
    ∃ t u, commitDmem (storeTo s g rs1 want n words) s = .next t ∧ load t = .next u ∧ u.reg rd = v := by
  obtain ⟨m, hstore, hword⟩ := commitDmem_store_ok hsrc hg hlen hlt
  refine ⟨_, _, hstore, hload _ fun k hk => ?_, reg_setReg_self _ rd v⟩
  rw [advance_word, hword, if_pos ⟨Nat.le_add_right g k, Nat.add_lt_add_left hk g⟩, Nat.add_sub_cancel_left]

/-- The same for one word, whose granule is always inside DMEM. -/
theorem commitDmem_storeOne_then_load {g : Imm9} {val : α → Nat} (hsrc : src s rs1 want = .ok a)
    (hlt : val a < 2 ^ 256) (hload : ∀ t : State, word t g.toNat = val a → load t = .next (t.setReg rd v).advance) :
    ∃ t u, commitDmem (storeTo s g.toNat rs1 want 1 fun a => [val a]) s = .next t ∧ load t = .next u ∧
      u.reg rd = v :=
  commitDmem_store_then_load (words := fun a => [val a]) hsrc g.isLt rfl (by simpa)
    fun t ht => hload t (ht 0 Nat.one_pos)

/-- The same for a field value above Fp, whose load reads its coefficients. -/
theorem commitDmem_storeCoeffs_then_load {coeffs : α → List Fp} {read : State → Nat → Except Exc α}
    {f : α → RegVal} (hsrc : src s rs1 want = .ok a) (hg : g + n ≤ Config.granules)
    (hlen : (coeffs a).length = n)
    (hread : ∀ t : State, (∀ k < n, word t (g + k) = (coeffAt (coeffs a) k).val) → read t g = .ok a) :
    ∃ t u, commitDmem (storeTo s g rs1 want n fun a => (coeffs a).map Fp.val) s = .next t ∧
      commitReg rd ((loadFrom g n (read t)).map f) t = .next u ∧ u.reg rd = f a :=
  commitDmem_store_then_load hsrc hg (by rw [List.length_map, hlen]) (map_val_lt _) fun t ht =>
    commitReg_load_ok f hg (hread t fun k hk => (ht k hk).trans (getD_map_val _ k))

end RoundTrip

/-- Settles O43: the store leaves the value's words in its granules, and the load reads these words as that value. -/
theorem storeThenLoad : Obligations.StoreThenLoad := by
  intro s g rs1 rd
  refine ⟨fun a ha => ?_, fun a ha hg => ?_, fun a ha hg => ?_, fun a ha hg => ?_, fun p hp hon hg => ?_,
    fun p hp hon hg => ?_, fun k hk => ?_⟩
  · exact commitDmem_storeOne_then_load (src_of_reg (want := asFp) ha nofun rfl) (fp_val_lt_two_pow a)
      fun _ ht => commitReg_load_ok _ g.isLt (fpWord_of ht)
  · exact commitDmem_storeCoeffs_then_load (src_of_reg (want := asFp2) ha nofun rfl) hg a.length_coeffs
      fun _ => fp2Word_of
  · exact commitDmem_storeCoeffs_then_load (src_of_reg (want := asFp6) ha nofun rfl) hg a.length_coeffs
      fun _ => fp6Word_of
  · exact commitDmem_storeCoeffs_then_load (src_of_reg (want := asFp12) ha nofun rfl) hg a.length_coeffs
      fun _ => fp12Word_of
  · exact commitDmem_store_then_load (src_of_reg (want := asG1Aff) hp nofun rfl) hg (length_g1Wire p) (g1Wire_lt p)
      fun _ ht => commitReg_load_ok _ hg (g1Word_of_wire hon ht)
  · exact commitDmem_store_then_load (src_of_reg (want := asG2Aff) hp nofun rfl) hg (length_g2Wire p) (g2Wire_lt p)
      fun _ ht => commitReg_load_ok _ hg (g2Word_of_wire hon ht)
  · exact commitDmem_storeOne_then_load (src_of_reg (want := asSc) hk nofun rfl) k.isLt
      fun _ ht => exec_ldsc_of_word rd ht

end Sys2Proof.Machine
end

section
/-! Fp's ring operations as integers mod P, the constants of the tower by their coefficients, and the tests against them
(42_fp.md R212 to R218, R222, R223, and their like in 43_fp2.md to 47_g2.md). -/

namespace Sys2Proof.Machine

/-! ## Fp's operations as integers mod P -/

theorem intCast_val_fp_add (a b : Fp) : ((a.add b).val : Int) = ((a.val : Int) + b.val) % P := by
  rw [Fp.val_add, Int.natCast_mod, Nat.cast_add]

theorem intCast_val_fp_mul (a b : Fp) : ((a.mul b).val : Int) = ((a.val : Int) * b.val) % P := by
  rw [Fp.val_mul, Int.natCast_mod, Nat.cast_mul]

/-- `Fp.neg` computes P − a, which is −a mod P. -/
theorem intCast_val_fp_neg (a : Fp) : (a.neg.val : Int) = ((P : Int) - a.val) % P := by
  rw [Fp.val_neg, Int.natCast_mod, Nat.cast_sub (le_of_lt a.lt)]

/-- `Fp.sub` computes a + (P − b), which is a − b mod P. -/
theorem intCast_val_fp_sub (a b : Fp) : ((a.sub b).val : Int) = ((a.val : Int) - b.val) % P := by
  have hsum : (a.val : Int) + (P - b.val) = (a.val - b.val) + P := by ring
  rw [Fp.val_sub, Int.natCast_mod, Nat.cast_add, Nat.cast_sub (le_of_lt b.lt), hsum, Int.add_emod_right]

/-- Settles O20: the operands are read, and each operation of Fp is the integer one mod P. -/
theorem fpRingResults : Obligations.FpRingResults := by
  intro s rd rs1 a ha
  have hsrc : src s rs1 asFp = .ok a := src_of_reg ha nofun rfl
  refine ⟨fun rs2 b hb => ?_, ⟨a.neg, intCast_val_fp_neg a, commitReg_map_ok _ hsrc⟩,
    ⟨a.mul a, intCast_val_fp_mul a a, commitReg_map_ok _ hsrc⟩⟩
  have hsrcs : srcs s rs1 asFp rs2 asFp = .ok (a, b) := srcs_of_reg ha hb nofun nofun rfl rfl
  exact ⟨⟨a.add b, intCast_val_fp_add a b, commitReg_map_ok _ hsrcs⟩,
    ⟨a.sub b, intCast_val_fp_sub a b, commitReg_map_ok _ hsrcs⟩,
    ⟨a.mul b, intCast_val_fp_mul a b, commitReg_map_ok _ hsrcs⟩⟩

/-! ## The constants: an Fp constant padded with zeros -/

theorem val_coeffAt_fp2_one (k : Nat) : (coeffAt Fp2.one.coeffs k).val = if k = 0 then 1 else 0 :=
  val_coeffAt_cons_zeros Fp.one 1 k
theorem val_coeffAt_fp6_one (k : Nat) : (coeffAt Fp6.one.coeffs k).val = if k = 0 then 1 else 0 :=
  val_coeffAt_cons_zeros Fp.one 5 k
theorem val_coeffAt_fp12_one (k : Nat) : (coeffAt Fp12.one.coeffs k).val = if k = 0 then 1 else 0 :=
  val_coeffAt_cons_zeros Fp.one 11 k

theorem val_coeffAt_fp2_zero (k : Nat) : (coeffAt Fp2.zero.coeffs k).val = 0 :=
  (val_coeffAt_cons_zeros Fp.zero 1 k).trans (ite_self 0)
theorem val_coeffAt_fp6_zero (k : Nat) : (coeffAt Fp6.zero.coeffs k).val = 0 :=
  (val_coeffAt_cons_zeros Fp.zero 5 k).trans (ite_self 0)
theorem val_coeffAt_fp12_zero (k : Nat) : (coeffAt Fp12.zero.coeffs k).val = 0 :=
  (val_coeffAt_cons_zeros Fp.zero 11 k).trans (ite_self 0)

/-- Settles O19: no operand is read, and the constants have these coefficients. -/
theorem constantResults : Obligations.ConstantResults := fun _ _ =>
  ⟨⟨Fp.zero, Fp.val_zero, rfl⟩, ⟨Fp.one, Fp.val_one, rfl⟩,
    ⟨Fp2.zero, fun k _ => val_coeffAt_fp2_zero k, rfl⟩, ⟨Fp2.one, fun k _ => val_coeffAt_fp2_one k, rfl⟩,
    ⟨Fp6.zero, fun k _ => val_coeffAt_fp6_zero k, rfl⟩, ⟨Fp6.one, fun k _ => val_coeffAt_fp6_one k, rfl⟩,
    ⟨Fp12.zero, fun k _ => val_coeffAt_fp12_zero k, rfl⟩, ⟨Fp12.one, fun k _ => val_coeffAt_fp12_one k, rfl⟩,
    rfl, rfl⟩

/-! ## The tests -/

theorem fp2_eq_zero_iff (a : Fp2) : a = Fp2.zero ↔ ∀ k < 2, (coeffAt a.coeffs k).val = 0 := by
  simp only [fp2_eq_iff, val_coeffAt_fp2_zero]
theorem fp2_eq_one_iff (a : Fp2) : a = Fp2.one ↔ ∀ k < 2, (coeffAt a.coeffs k).val = if k = 0 then 1 else 0 := by
  simp only [fp2_eq_iff, val_coeffAt_fp2_one]
theorem fp6_eq_zero_iff (a : Fp6) : a = Fp6.zero ↔ ∀ k < 6, (coeffAt a.coeffs k).val = 0 := by
  simp only [fp6_eq_iff, val_coeffAt_fp6_zero]
theorem fp6_eq_one_iff (a : Fp6) : a = Fp6.one ↔ ∀ k < 6, (coeffAt a.coeffs k).val = if k = 0 then 1 else 0 := by
  simp only [fp6_eq_iff, val_coeffAt_fp6_one]
theorem fp12_eq_zero_iff (a : Fp12) : a = Fp12.zero ↔ ∀ k < 12, (coeffAt a.coeffs k).val = 0 := by
  simp only [fp12_eq_iff, val_coeffAt_fp12_zero]
theorem fp12_eq_one_iff (a : Fp12) : a = Fp12.one ↔ ∀ k < 12, (coeffAt a.coeffs k).val = if k = 0 then 1 else 0 := by
  simp only [fp12_eq_iff, val_coeffAt_fp12_one]

section Test
variable {s : State} {rs1 : RegIdx} {α : Type} {want : RegVal → Option α} {a : α} {c : Prop}

/-- A test of an operand that is read sets FLAG to its answer; `c` spells the answer out. -/
theorem commitFlag_test {test : α → Bool} (hsrc : src s rs1 want = .ok a) (hc : test a = true ↔ c) :
    ∃ f : Bool, (f = true ↔ c) ∧ commitFlag ((src s rs1 want).map test) s = .next (s.setFlag f).advance := by
  rw [hsrc]
  exact ⟨test a, hc, rfl⟩

/-- ISZERO and ISONE compare with the level's constant. -/
theorem commitFlag_isConst [DecidableEq α] {const : α} (hsrc : src s rs1 want = .ok a) (hc : a = const ↔ c) :
    ∃ f : Bool, (f = true ↔ c) ∧
      commitFlag ((src s rs1 want).map (isConst const)) s = .next (s.setFlag f).advance :=
  commitFlag_test hsrc (decide_eq_true_iff.trans hc)

end Test

theorem isInf_iff {F : Type} (p : Pt F) : isInf p = true ↔ p = .inf := by
  cases p with
  | inf => exact iff_of_true rfl rfl
  | aff x y => exact iff_of_false nofun nofun

/-- Settles O32: each operand is read, and each test decides equality with the constant, which is that of the
coefficients, with O, or of ML_ST with DONE. -/
theorem testResults : Obligations.TestResults := by
  intro s rs1
  refine ⟨fun a ha => ?_, fun a ha => ?_, fun a ha => ?_, fun a ha => ?_, fun m p hp => ?_, fun m p hp => ?_, ?_⟩
  · have hsrc : src s rs1 asFp = .ok a := src_of_reg ha nofun rfl
    exact ⟨commitFlag_isConst hsrc (Fp.eq_iff_val a Fp.zero), commitFlag_isConst hsrc (Fp.eq_iff_val a Fp.one)⟩
  · have hsrc : src s rs1 asFp2 = .ok a := src_of_reg ha nofun rfl
    exact ⟨commitFlag_isConst hsrc (fp2_eq_zero_iff a), commitFlag_isConst hsrc (fp2_eq_one_iff a)⟩
  · have hsrc : src s rs1 asFp6 = .ok a := src_of_reg ha nofun rfl
    exact ⟨commitFlag_isConst hsrc (fp6_eq_zero_iff a), commitFlag_isConst hsrc (fp6_eq_one_iff a)⟩
  · have hsrc : src s rs1 asFp12 = .ok a := src_of_reg ha nofun rfl
    exact ⟨commitFlag_isConst hsrc (fp12_eq_zero_iff a), commitFlag_isConst hsrc (fp12_eq_one_iff a)⟩
  · exact commitFlag_test (src_of_reg hp (ofG1_ne_empty m p) (asG1_ofG1 m p)) (isInf_iff p)
  · exact commitFlag_test (src_of_reg hp (ofG2_ne_empty m p) (asG2_ofG2 m p)) (isInf_iff p)
  · exact ⟨mlIsDone s.ml, decide_eq_true_iff, rfl⟩

end Sys2Proof.Machine
end

section
/-! FROB in Fp and Fp2: the power P is the identity on Fp and the conjugation on Fp2 (42_fp.md R221, 43_fp2.md R263). -/

namespace Sys2Proof.Machine

/-! ## Fp and Fp2 as rings of characteristic P -/

/-- In a level's ring the product of `n` factors is the power. -/
theorem RingLaws.iterate_mul_eq_pow {T : Type} {zero one : T} {add sub mul : T → T → T} {neg : T → T}
    (h : RingLaws zero one add sub mul neg) (a : T) (n : Nat) :
    letI := h.commRing
    (fun x => mul x a)^[n] one = a ^ n := by
  let _ := h.commRing
  induction n with
  | zero => exact (pow_zero a).symm
  | succ n ih => rw [Function.iterate_succ_apply', ih, pow_succ]; rfl

/-- An Fp value as its residue class, with Fp's operations. -/
def fpToZModHom :
    letI := fp_ringLaws.commRing
    Fp →+* ZMod P :=
  letI := fp_ringLaws.commRing
  { toFun := Fp.toZMod
    map_zero' := Fp.toZMod_zero
    map_one' := Fp.toZMod_one
    map_add' := Fp.toZMod_add
    map_mul' := Fp.toZMod_mul }

theorem fp2_ofFp_add (a b : Fp) : Fp2.ofFp (a.add b) = (Fp2.ofFp a).add (Fp2.ofFp b) := by
  let _ := fp_ringLaws.commRing
  apply Fp2.ext_coeffs <;> simp only [Fp2.ofFp, Fp2.add, fp_ringLaws.ops_eq]
  ring

theorem fp2_ofFp_mul (a b : Fp) : Fp2.ofFp (a.mul b) = (Fp2.ofFp a).mul (Fp2.ofFp b) := by
  let _ := fp_ringLaws.commRing
  apply Fp2.ext_coeffs <;> simp only [Fp2.ofFp, Fp2.mul, fp_ringLaws.ops_eq] <;> ring

/-- An Fp value as (a, 0), with Fp2's operations (43_fp2.md R267). -/
def fp2OfFpHom :
    letI := fp_ringLaws.commRing
    letI := fp2_ringLaws.commRing
    Fp →+* Fp2 :=
  letI := fp_ringLaws.commRing
  letI := fp2_ringLaws.commRing
  { toFun := Fp2.ofFp
    map_zero' := rfl
    map_one' := rfl
    map_add' := fp2_ofFp_add
    map_mul' := fp2_ofFp_mul }

theorem fp2_charP :
    letI := fp2_ringLaws.commRing
    CharP Fp2 P := by
  let _ := fp_ringLaws.commRing
  let _ := fp2_ringLaws.commRing
  have : CharP Fp P := RingHom.charP fpToZModHom Fp.toZMod_injective P
  exact charP_of_injective_ringHom (f := fp2OfFpHom) (fun _ _ h => congrArg Fp2.c0 h) P

/-! ## The power P -/

/-- Fermat's little theorem, for every power P^k (42_fp.md R221). -/
theorem fp_pow_P_pow (a : Fp) (k : Nat) : a.pow (P ^ k) = a := by
  have : Fact P.Prime := ⟨P_prime⟩
  apply Fp.toZMod_injective
  rw [fp_toZMod_pow, ZMod.pow_card_pow]

/-- The imaginary unit u (43_fp2.md R250). -/
def fp2U : Fp2 := ⟨Fp.zero, Fp.one⟩

theorem fp2_eq_ofFp_add_mul_u (a : Fp2) : a = (Fp2.ofFp a.c0).add ((Fp2.ofFp a.c1).mul fp2U) := by
  let _ := fp_ringLaws.commRing
  apply Fp2.ext_coeffs <;> simp only [fp2U, Fp2.ofFp, Fp2.mul, Fp2.add, fp_ringLaws.ops_eq] <;> ring

theorem fp2_conj_eq (a : Fp2) : a.conj = (Fp2.ofFp a.c0).sub ((Fp2.ofFp a.c1).mul fp2U) := by
  let _ := fp_ringLaws.commRing
  apply Fp2.ext_coeffs <;> simp only [fp2U, Fp2.conj, Fp2.ofFp, Fp2.mul, Fp2.sub, fp_ringLaws.ops_eq] <;> ring

theorem fp2_ofFp_pow_P (a : Fp) :
    letI := fp2_ringLaws.commRing
    Fp2.ofFp a ^ P = Fp2.ofFp a := by
  let _ := fp_ringLaws.commRing
  let _ := fp2_ringLaws.commRing
  have hfermat : a ^ P = a := by
    rw [← fp_ringLaws.iterate_mul_eq_pow, ← fp_pow_eq_iterate, ← pow_one P, fp_pow_P_pow]
  exact (map_pow fp2OfFpHom a P).symm.trans (congrArg Fp2.ofFp hfermat)

/-- u² = −1, and (P − 1)/2 is odd. -/
theorem fp2U_pow_P :
    letI := fp2_ringLaws.commRing
    fp2U ^ P = -fp2U := by
  let _ := fp2_ringLaws.commRing
  have hsq : fp2U ^ 2 = -1 := by rw [pow_two]; exact (by decide : fp2U.mul fp2U = Fp2.one.neg)
  have hP : P = 2 * ((P - 1) / 2) + 1 := by decide
  have hodd : Odd ((P - 1) / 2) := by decide
  rw [hP, pow_succ, pow_mul, hsq, hodd.neg_one_pow, neg_one_mul]

/-- The Frobenius map of Fp2: a^P = conj(a). -/
theorem fp2_pow_P (a : Fp2) : a.pow P = a.conj := by
  have : Fact P.Prime := ⟨P_prime⟩
  let _ := fp2_ringLaws.commRing
  have := fp2_charP
  rw [fp2_pow_eq_iterate, fp2_ringLaws.iterate_mul_eq_pow, fp2_conj_eq]
  conv_lhs => rw [fp2_eq_ofFp_add_mul_u a]
  simp only [fp2_ringLaws.ops_eq]
  rw [add_pow_char, mul_pow, fp2_ofFp_pow_P, fp2_ofFp_pow_P, fp2U_pow_P, mul_neg, sub_eq_add_neg]

theorem fp2_conj_conj (a : Fp2) : a.conj.conj = a := by
  let _ := fp_ringLaws.commRing
  exact Fp2.ext_coeffs rfl (neg_neg a.c1)

/-- One power P more conjugates once more. -/
theorem fp2_frob_succ (a : Fp2) (k : Nat) : a.frob (k + 1) = (a.frob k).conj := by
  by_cases hk : k % 2 = 0
  · have hk1 : (k + 1) % 2 ≠ 0 := by omega
    rw [Fp2.frob, Fp2.frob, if_neg hk1, if_pos hk]
  · have hk1 : (k + 1) % 2 = 0 := by omega
    rw [Fp2.frob, Fp2.frob, if_pos hk1, if_neg hk, fp2_conj_conj]

/-- The Frobenius map of Fp2, `k` times (43_fp2.md R263). -/
theorem fp2_pow_P_pow (a : Fp2) (k : Nat) : a.pow (P ^ k) = a.frob k := by
  induction k with
  | zero => rw [pow_zero, fp2_pow_eq_iterate]; exact fp2_ringLaws.one_mul a
  | succ k ih =>
    let _ := fp2_ringLaws.commRing
    rw [fp2_frob_succ, ← ih, ← fp2_pow_P]
    simp only [fp2_pow_eq_iterate, fp2_ringLaws.iterate_mul_eq_pow]
    rw [pow_succ, pow_mul]

/-- Settles O29: the power P is the identity on Fp and the conjugation on Fp2, which is its own inverse. -/
theorem frobeniusFpFp2 : Obligations.FrobeniusFpFp2 := by
  intro s rd rs1 k
  refine ⟨fun a ha => ⟨?_, ?_⟩, fun a ha => ⟨a.frob k.toNat, ?_, rfl, ?_⟩⟩
  · rw [← val_fp_pow, fp_pow_P_pow]
  · exact commitReg_map_ok _ (src_of_reg (want := asFp) ha nofun rfl)
  · rw [← fp2_pow_P_pow, fp2_pow_eq_iterate]
  · exact commitReg_map_ok _ (src_of_reg (want := asFp2) ha nofun rfl)

end Sys2Proof.Machine
end

section
/-! Inverses at every level of the tower. That every nonzero value of Fp6 and of Fp12 has one rests on ξ being neither a
cube nor a square in Fp2 (42_fp.md R225, 43_fp2.md R270, 44_fp6.md R291, R306, 45_fp12.md R320). -/

namespace Sys2Proof.Machine

/-! ## Norms over a domain -/

section Domain
variable {K : Type} [CommRing K] [IsDomain K] {xi x y : K}

/-- Where every nonzero value's power `n·m` is 1, a value whose power `m` is not 1 is no quotient of two `n`-th powers. -/
theorem eq_zero_of_pow_eq_mul_pow {n m : Nat} (hn : n ≠ 0) (hone : ∀ z : K, z ≠ 0 → z ^ (n * m) = 1) (hxi0 : xi ≠ 0)
    (hxi : xi ^ m ≠ 1) (h : x ^ n = xi * y ^ n) : y = 0 := by
  by_contra hy
  have hx : x ≠ 0 := by
    rintro rfl
    rw [zero_pow hn] at h
    exact mul_ne_zero hxi0 (pow_ne_zero n hy) h.symm
  apply hxi
  calc xi ^ m = xi ^ m * y ^ (n * m) := by rw [hone y hy, mul_one]
    _ = (x ^ n) ^ m := by rw [h, mul_pow, pow_mul]
    _ = 1 := by rw [← pow_mul, hone x hx]

/-- The norm of a0 + a1·v + a2·v² with v³ = ξ is 0 for no other value than 0, where ξ is no cube. The numbers
B = ξ·a2² − a0·a1 and C = a1² − a0·a2 have B³ − ξ·C³ = (ξ·a2³ − a1³)·norm, and a1³ − ξ·a2³ = a1·C − a2·B. -/
theorem eq_zero_of_cubicNorm_eq_zero (hcube : ∀ x y : K, x ^ 3 = xi * y ^ 3 → y = 0) {a0 a1 a2 : K}
    (h : a0 ^ 3 + xi * a1 ^ 3 + xi ^ 2 * a2 ^ 3 - 3 * xi * a0 * a1 * a2 = 0) : a0 = 0 ∧ a1 = 0 ∧ a2 = 0 := by
  have hBC : (xi * a2 ^ 2 - a0 * a1) ^ 3 = xi * (a1 ^ 2 - a0 * a2) ^ 3 := by
    linear_combination (xi * a2 ^ 3 - a1 ^ 3) * h
  have hC : a1 ^ 2 - a0 * a2 = 0 := hcube _ _ hBC
  have hB : xi * a2 ^ 2 - a0 * a1 = 0 := pow_eq_zero_iff three_ne_zero |>.1 (by rw [hBC, hC]; ring)
  have h2 : a2 = 0 := hcube a1 a2 (by linear_combination a1 * hC - a2 * hB)
  have h1 : a1 = 0 := pow_eq_zero_iff two_ne_zero |>.1 (by rw [h2] at hC; linear_combination hC)
  have h0 : a0 = 0 := pow_eq_zero_iff three_ne_zero |>.1 (by rw [h1, h2] at h; linear_combination h)
  exact ⟨h0, h1, h2⟩

end Domain

/-! ## Fp2: ξ is neither a cube nor a square -/

theorem fp2_isDomain :
    letI := fp2_ringLaws.commRing
    IsDomain Fp2 := by
  let _ := fp2_ringLaws.commRing
  have hfield : IsField Fp2 :=
    ⟨⟨Fp2.zero, Fp2.one, by decide⟩, fp2_ringLaws.mul_comm, fun {a} ha => ⟨a.inv, fp2_mul_inv ha⟩⟩
  exact hfield.isDomain

/-- A nonzero value's power P² − 1 is 1, since its power P² is itself. -/
theorem fp2_pow_sq_sub_one {a : Fp2} (ha : a ≠ Fp2.zero) :
    letI := fp2_ringLaws.commRing
    a ^ (P ^ 2 - 1) = 1 := by
  let _ := fp2_ringLaws.commRing
  have := fp2_isDomain
  have hpow : a ^ (P ^ 2) = a := by
    rw [← fp2_ringLaws.iterate_mul_eq_pow, ← fp2_pow_eq_iterate, fp2_pow_P_pow]; rfl
  have hexp : P ^ 2 = (P ^ 2 - 1) + 1 := by decide
  rw [hexp, pow_succ] at hpow
  exact mul_right_cancel₀ ha (hpow.trans (one_mul a).symm)

theorem fp2_xi_pow_third_ne_one : Fp2.xi.pow ((P ^ 2 - 1) / 3) ≠ Fp2.one := by decide +kernel
theorem fp2_xi_pow_half_ne_one : Fp2.xi.pow ((P ^ 2 - 1) / 2) ≠ Fp2.one := by decide +kernel

theorem fp2_eq_zero_of_pow_eq_xi_mul_pow {n m : Nat} {x y : Fp2} (hn : n ≠ 0) (hm : n * m = P ^ 2 - 1)
    (hxi : Fp2.xi.pow m ≠ Fp2.one) :
    letI := fp2_ringLaws.commRing
    x ^ n = Fp2.xi * y ^ n → y = 0 := by
  let _ := fp2_ringLaws.commRing
  have := fp2_isDomain
  rw [fp2_pow_eq_iterate, fp2_ringLaws.iterate_mul_eq_pow] at hxi
  refine eq_zero_of_pow_eq_mul_pow hn (fun z hz => ?_) (by decide : Fp2.xi ≠ Fp2.zero) hxi
  rw [hm]
  exact fp2_pow_sq_sub_one hz

/-! ## Fp6 -/

theorem fp6_norm_eq_zero {a : Fp6} (h : a.norm = Fp2.zero) : a = Fp6.zero := by
  let _ := fp2_ringLaws.commRing
  have := fp2_isDomain
  have hcube (x y : Fp2) : x ^ 3 = Fp2.xi * y ^ 3 → y = 0 :=
    fp2_eq_zero_of_pow_eq_xi_mul_pow three_ne_zero (by decide) fp2_xi_pow_third_ne_one
  simp only [Fp6.norm, Fp6.adj, fp2_mulXi_eq_mul, fp2_ringLaws.ops_eq] at h
  obtain ⟨h0, h1, h2⟩ := eq_zero_of_cubicNorm_eq_zero (a0 := a.c0) (a1 := a.c1) (a2 := a.c2) hcube
    (by linear_combination h)
  exact Fp6.ext_coeffs h0 h1 h2

theorem fp6_mul_inv {a : Fp6} (h : a ≠ Fp6.zero) : a.mul a.inv = Fp6.one := by
  have hnorm := fp2_mul_inv (fun h0 : a.norm = Fp2.zero => h (fp6_norm_eq_zero h0))
  rw [Fp6.inv]
  generalize a.norm.inv = i at hnorm
  let _ := fp2_ringLaws.commRing
  simp only [Fp6.norm, Fp6.adj, fp2_mulXi_eq_mul, fp2_ringLaws.ops_eq] at hnorm
  apply Fp6.ext_coeffs <;> simp only [Fp6.mul, Fp6.scale, Fp6.one, Fp6.adj, fp2_mulXi_eq_mul, fp2_ringLaws.ops_eq]
  · linear_combination hnorm
  · ring
  · ring

theorem fp6_norm_mul (a b : Fp6) : (a.mul b).norm = a.norm.mul b.norm := by
  let _ := fp2_ringLaws.commRing
  simp only [Fp6.norm, Fp6.adj, Fp6.mul, fp2_mulXi_eq_mul, fp2_ringLaws.ops_eq]
  ring

/-- The norm of v is ξ. -/
theorem fp6_norm_mulV (a : Fp6) : a.mulV.norm = Fp2.xi.mul a.norm := by
  let _ := fp2_ringLaws.commRing
  simp only [Fp6.norm, Fp6.adj, Fp6.mulV, fp2_mulXi_eq_mul, fp2_ringLaws.ops_eq]
  ring

/-! ## Fp12 -/

/-- If a0² = v·a1², then the norms down to Fp2 have N(a0)² = ξ·N(a1)², and ξ is no square. -/
theorem fp12_norm_eq_zero {a : Fp12} (h : a.norm = Fp6.zero) : a = Fp12.zero := by
  have hsq : a.c0.mul a.c0 = (a.c1.mul a.c1).mulV := by
    let _ := fp6_ringLaws.commRing
    exact sub_eq_zero.1 h
  have hnorm := congrArg Fp6.norm hsq
  rw [fp6_norm_mulV, fp6_norm_mul, fp6_norm_mul] at hnorm
  let _ := fp2_ringLaws.commRing
  have := fp2_isDomain
  simp only [fp2_ringLaws.ops_eq, ← pow_two] at hnorm
  have h1 : a.c1.norm = 0 :=
    fp2_eq_zero_of_pow_eq_xi_mul_pow two_ne_zero (by decide) fp2_xi_pow_half_ne_one hnorm
  have h0 : a.c0.norm = 0 := pow_eq_zero_iff two_ne_zero |>.1 (by rw [hnorm, h1]; ring)
  exact Fp12.ext_coeffs (fp6_norm_eq_zero h0) (fp6_norm_eq_zero h1)

theorem fp12_mul_inv {a : Fp12} (h : a ≠ Fp12.zero) : a.mul a.inv = Fp12.one := by
  have hnorm := fp6_mul_inv (fun h0 : a.norm = Fp6.zero => h (fp12_norm_eq_zero h0))
  rw [Fp12.inv]
  generalize a.norm.inv = i at hnorm
  let _ := fp6_ringLaws.commRing
  simp only [Fp12.norm, fp6_mulV_eq_mul, fp6_ringLaws.ops_eq] at hnorm
  apply Fp12.ext_coeffs <;> simp only [Fp12.mul, Fp12.one, fp6_mulV_eq_mul, fp6_ringLaws.ops_eq]
  · linear_combination hnorm
  · ring

/-- Settles O24: the ring laws level by level, and the norm of a nonzero value is nonzero in the level below. -/
theorem towerFieldLaws : Obligations.TowerFieldLaws :=
  ⟨⟨fp_ringLaws, fun _ => fp_mul_inv⟩, ⟨fp2_ringLaws, fun _ => fp2_mul_inv⟩, ⟨fp6_ringLaws, fun _ => fp6_mul_inv⟩,
    ⟨fp12_ringLaws, fun _ => fp12_mul_inv⟩⟩

/-! ## INV -/

/-- INV of an operand that is read and is not the zero of its level writes its inverse. -/
theorem commitReg_inv_of_ne_zero {α : Type} [DecidableEq α] {s : State} {rd rs1 : RegIdx} {want : RegVal → Option α}
    {a zero : α} {e : Exc} (f : α → RegVal) (hsrc : src s rs1 want = .ok a) (hne : a ≠ zero) :
    commitReg rd ((src s rs1 want).bind fun a => if a = zero then .error e else .ok (f a)) s =
      .next (s.setReg rd (f a)).advance := by
  simp only [hsrc, Except.bind, if_neg hne, commitReg]

/-- Settles O25: a nonzero operand is read, and its inverse has product 1 with it. -/
theorem inverseFpFp2 : Obligations.InverseFpFp2 := by
  intro s rd rs1
  refine ⟨fun a ha hne => ?_, fun a ha hne => ?_⟩
  · have hne0 : a ≠ Fp.zero := fun h => hne (congrArg Fp.val h)
    refine ⟨a.inv, ?_, commitReg_inv_of_ne_zero (fun a => .fp a.inv) (src_of_reg (want := asFp) ha nofun rfl) hne0⟩
    rw [← Fp.val_mul, fp_mul_inv hne0, Fp.val_one]
  · have hne0 : a ≠ Fp2.zero := fun h => hne (h ▸ ⟨rfl, rfl⟩)
    exact ⟨a.inv, fp2_mul_inv hne0,
      commitReg_inv_of_ne_zero (fun a => .fp2 a.inv) (src_of_reg (want := asFp2) ha nofun rfl) hne0⟩

end Sys2Proof.Machine
end

section
/-! Fp2's ring operations coefficient by coefficient, as integers mod P (43_fp2.md R250, R251, R254 to R262). -/

namespace Sys2Proof.Machine

/-! ## Fp2's operations as integers mod P -/

/-- An Fp value is the integer `n` mod P if it is so as a residue class, where identities of rings can be used. -/
theorem intCast_val_eq_emod_of_toZMod {v : Fp} {n : Int} (h : v.toZMod = (n : ZMod P)) : (v.val : Int) = n % P := by
  rw [Fp.toZMod, ← Int.cast_natCast, ZMod.intCast_eq_intCast_iff'] at h
  rwa [← Int.natCast_mod, Nat.mod_eq_of_lt v.lt] at h

theorem intCast_intCast_val (a : Fp) : ((a.val : Int) : ZMod P) = a.toZMod := Int.cast_natCast a.val

theorem intCast_val_fp_neg_eq_neg_emod (a : Fp) : (a.neg.val : Int) = (-(a.val : Int)) % P := by
  rw [intCast_val_fp_neg, sub_eq_add_neg, Int.add_emod_left]

theorem intCast_val_fp2_mul (a b : Fp2) :
    ((a.mul b).c0.val : Int) = ((a.c0.val : Int) * b.c0.val - a.c1.val * b.c1.val) % P ∧
    ((a.mul b).c1.val : Int) = ((a.c0.val : Int) * b.c1.val + a.c1.val * b.c0.val) % P := by
  constructor <;> apply intCast_val_eq_emod_of_toZMod
  · simp only [Fp2.mul, Fp.toZMod_sub, Fp.toZMod_mul, Int.cast_sub, Int.cast_mul, intCast_intCast_val]
  · simp only [Fp2.mul, Fp.toZMod_add, Fp.toZMod_mul, Int.cast_add, Int.cast_mul, intCast_intCast_val]

/-- The square, in the form 43_fp2.md R259 derives: (a0 + a1)(a0 − a1) = a0² − a1². -/
theorem intCast_val_fp2_sqr (a : Fp2) :
    ((a.mul a).c0.val : Int) = (((a.c0.val : Int) + a.c1.val) * ((a.c0.val : Int) - a.c1.val)) % P ∧
    ((a.mul a).c1.val : Int) = (2 * (a.c0.val : Int) * a.c1.val) % P := by
  obtain ⟨h0, h1⟩ := intCast_val_fp2_mul a a
  refine ⟨h0.trans (congrArg (· % (P : Int)) ?_), h1.trans (congrArg (· % (P : Int)) ?_)⟩ <;> ring

theorem toZMod_ofNat_nine : (Fp.ofNat 9).toZMod = 9 := Fp.toZMod_ofNat 9

/-- The product with ξ = 9 + u (43_fp2.md R262). -/
theorem intCast_val_fp2_mulXi (a : Fp2) :
    (a.mulXi.c0.val : Int) = (9 * (a.c0.val : Int) - a.c1.val) % P ∧
    (a.mulXi.c1.val : Int) = ((a.c0.val : Int) + 9 * a.c1.val) % P := by
  constructor <;> apply intCast_val_eq_emod_of_toZMod
  · simp only [Fp2.mulXi, Fp.toZMod_sub, Fp.toZMod_mul, toZMod_ofNat_nine, Int.cast_sub, Int.cast_mul, Int.cast_ofNat,
      intCast_intCast_val]
  · simp only [Fp2.mulXi, Fp.toZMod_add, Fp.toZMod_mul, toZMod_ofNat_nine, Int.cast_add, Int.cast_mul, Int.cast_ofNat,
      intCast_intCast_val]

/-- Settles O21: the operands are read, and each coefficient is the integer of its formula mod P. -/
theorem fp2RingResults : Obligations.Fp2RingResults := by
  intro s rd rs1 a ha
  have hsrc : src s rs1 asFp2 = .ok a := src_of_reg ha nofun rfl
  obtain ⟨hsqr0, hsqr1⟩ := intCast_val_fp2_sqr a
  obtain ⟨hxi0, hxi1⟩ := intCast_val_fp2_mulXi a
  refine ⟨fun rs2 b hb => ?_,
    ⟨a.neg, intCast_val_fp_neg_eq_neg_emod a.c0, intCast_val_fp_neg_eq_neg_emod a.c1, commitReg_map_ok _ hsrc⟩,
    ⟨a.mul a, hsqr0, hsqr1, commitReg_map_ok _ hsrc⟩,
    ⟨a.conj, rfl, intCast_val_fp_neg_eq_neg_emod a.c1, commitReg_map_ok _ hsrc⟩,
    ⟨a.mulXi, hxi0, hxi1, commitReg_map_ok _ hsrc⟩⟩
  have hsrcs : srcs s rs1 asFp2 rs2 asFp2 = .ok (a, b) := srcs_of_reg ha hb nofun nofun rfl rfl
  obtain ⟨hmul0, hmul1⟩ := intCast_val_fp2_mul a b
  exact ⟨⟨a.add b, intCast_val_fp_add a.c0 b.c0, intCast_val_fp_add a.c1 b.c1, commitReg_map_ok _ hsrcs⟩,
    ⟨a.sub b, intCast_val_fp_sub a.c0 b.c0, intCast_val_fp_sub a.c1 b.c1, commitReg_map_ok _ hsrcs⟩,
    ⟨a.mul b, hmul0, hmul1, commitReg_map_ok _ hsrcs⟩⟩

end Sys2Proof.Machine
end

section
/-! The line of a Miller step, and the FROB1 and FROB2 steps of MLSTEP (48_pairing.md R422, R426, 47_g2.md R391). -/

namespace Sys2Proof.Machine

/-! ## The slopes of the group law, each by its product with the denominator (46_g1.md R360) -/

section Slope
variable {F : Type} {o : FieldOps F} {one : F} (h : RingLaws o.zero one o.add o.sub o.mul o.neg)
  (hinv : ∀ a, a ≠ o.zero → o.mul a (o.inv a) = one)
include h hinv

theorem mul_inv_mul_cancel_of_laws (a : F) {d : F} (hd : d ≠ o.zero) : o.mul (o.mul a (o.inv d)) d = a := by
  rw [← h.mul_assoc, h.mul_comm (o.inv d), hinv d hd, h.mul_one]

theorem tangentSlope_mul (x : F) {y : F} (hy : o.add y y ≠ o.zero) :
    o.mul (tangentSlope o x y) (o.add y y) = o.add (o.add (o.mul x x) (o.mul x x)) (o.mul x x) :=
  mul_inv_mul_cancel_of_laws h hinv _ hy

theorem chordSlope_mul {x1 x2 : F} (y1 y2 : F) (hx : o.sub x2 x1 ≠ o.zero) :
    o.mul (chordSlope o x1 y1 x2 y2) (o.sub x2 x1) = o.sub y2 y1 :=
  mul_inv_mul_cancel_of_laws h hinv _ hx

end Slope

theorem fp2_sub_ne_zero {a b : Fp2} (h : b ≠ a) : a.sub b ≠ Fp2.zero := by
  let _ := fp2_ringLaws.commRing
  exact sub_ne_zero.2 h.symm

/-- P is odd, so no value but 0 is its own negative. -/
theorem fp2_add_self_ne_zero {a : Fp2} (h : a ≠ Fp2.zero) : a.add a ≠ Fp2.zero := by
  let _ := fp2_ringLaws.commRing
  have := fp2_isDomain
  have htwo : Fp2.one.add Fp2.one ≠ Fp2.zero := by decide
  have hadd : a.add a = (Fp2.one.add Fp2.one).mul a := by rw [fp2_ringLaws.add_mul, fp2_ringLaws.one_mul]
  rw [hadd]
  exact mul_ne_zero htwo h

/-! ## The line (48_pairing.md R422) -/

theorem lineNonvert_eq_nonvert (lam xt yt : Fp2) (xp yp : Fp) : lineNonvert lam xt yt xp yp = nonvert lam xt yt xp yp :=
  rfl
theorem lineVert_eq_vert (xt : Fp2) (xp : Fp) : lineVert xt xp = vert xt xp := rfl

/-- Where T is not a point with y = 0, the line through finite points can be formed: along the chord, along the tangent,
or as the vertical one. -/
theorem exists_line {xt yt : Fp2} (xs ys : Fp2) (xp yp : Fp) (hyt : yt ≠ Fp2.zero) :
    ∃ l, line (.aff xt yt) (.aff xs ys) (.aff xp yp) = some l ∧ IsLine xt yt xs ys xp yp l := by
  by_cases hx : xt = xs
  · by_cases hy : yt = ys
    · have hslope := tangentSlope_mul (o := fp2Ops) fp2_ringLaws (fun _ => fp2_mul_inv) xt (fp2_add_self_ne_zero hyt)
      refine ⟨nonvert (tangentSlope fp2Ops xt yt) xt yt xp yp, ?_, .inr (.inl ⟨hx, hy, hyt, _, hslope, rfl⟩)⟩
      rw [line, if_pos hx, if_pos hy, if_neg hyt, lineNonvert_eq_nonvert]
    · refine ⟨vert xt xp, ?_, .inr (.inr ⟨hx, hy, rfl⟩)⟩
      rw [line, if_pos hx, if_neg hy, lineVert_eq_vert]
  · have hslope := chordSlope_mul (o := fp2Ops) fp2_ringLaws (fun _ => fp2_mul_inv) yt ys (fp2_sub_ne_zero hx)
    refine ⟨nonvert (chordSlope fp2Ops xt yt xs ys) xt yt xp yp, ?_, .inl ⟨hx, _, hslope, rfl⟩⟩
    rw [line, if_neg hx, lineNonvert_eq_nonvert]

/-- A line that can be formed is multiplied into f, and its second point added to T. -/
theorem exists_lineAndAdd {x y xs ys : Fp2} {xp yp : Fp} {t sPt : G2} {p : G1} (f : Fp12) (ht : t = .aff x y)
    (hs : sPt = .aff xs ys) (hp : p = .aff xp yp) (hy : y ≠ Fp2.zero) :
    ∃ l, IsLine x y xs ys xp yp l ∧
      lineAndAdd f t sPt p = some (f.mul l, g2Add (.aff x y) (.aff xs ys), l) := by
  subst ht hs hp
  obtain ⟨l, hline, hl⟩ := exists_line xs ys xp yp hy
  exact ⟨l, hl, by rw [lineAndAdd, hline]⟩

/-! ## The constants' digits (43_fp2.md R266) and the Frobenius maps of the twist (47_g2.md R391) -/

theorem xi_pow_P_sub_one_div_three : Fp2.xi.pow ((P - 1) / 3) =
    ⟨Fp.ofNat 21575463638280843010398324269430826099269044274347216827212613867836435027261,
     Fp.ofNat 10307601595873709700152284273816112264069230130616436755625194854815875713954⟩ := by decide +kernel

theorem xi_pow_P_sub_one_div_two : Fp2.xi.pow ((P - 1) / 2) =
    ⟨Fp.ofNat 2821565182194536844548159561693502659359617185244120367078079554186484126554,
     Fp.ofNat 3505843767911556378687030309984248845540243509899259641013678093033130930403⟩ := by decide +kernel

theorem xi_pow_P_sq_sub_one_div_three : Fp2.xi.pow ((P ^ 2 - 1) / 3) =
    ⟨Fp.ofNat 21888242871839275220042445260109153167277707414472061641714758635765020556616, Fp.ofNat 0⟩ := by
  decide +kernel

/-- ξ is no square in Fp2. -/
theorem xi_pow_P_sq_sub_one_div_two : Fp2.xi.pow ((P ^ 2 - 1) / 2) = Fp2.one.neg := by decide +kernel

theorem g2Frob1_aff (x y : Fp2) : g2Frob1 (.aff x y) =
    .aff (x.conj.mul (Fp2.xi.pow ((P - 1) / 3))) (y.conj.mul (Fp2.xi.pow ((P - 1) / 2))) := rfl

/-- π2 negates the y-coordinate, and so −π2 keeps it. -/
theorem g2Neg_g2Frob2_aff (x y : Fp2) :
    g2Neg (g2Frob2 (.aff x y)) = .aff (x.mul (Fp2.xi.pow ((P ^ 2 - 1) / 3))) y := by
  have hneg : (y.mul Fp2.one.neg).neg = y := by
    let _ := fp2_ringLaws.commRing
    simp only [fp2_ringLaws.ops_eq]
    ring
  rw [g2Frob2, xi_pow_P_sq_sub_one_div_two]
  exact congrArg _ hneg

/-! ## The steps (48_pairing.md R426) -/

section Step
variable {u : Miller} {f l : Fp12} {t : G2}

theorem millerStep_of_frob1 (hst : u.st = .frob1) (h : lineAndAdd u.f u.t (g2Frob1 u.q) u.p = some (f, t, l)) :
    millerStep u = .ok { u with f := f, t := t, l := l, st := .frob2 } := by
  simp only [millerStep, hst, stepFrob1, h]

theorem millerStep_of_frob2 (hst : u.st = .frob2) (h : lineAndAdd u.f u.t (g2Neg (g2Frob2 u.q)) u.p = some (f, t, l)) :
    millerStep u = .ok { u with f := f, t := t, l := l, st := .done } := by
  simp only [millerStep, hst, stepFrob2, h]

end Step

/-- MLSTEP makes the step that completes. -/
theorem exec_mlstep_of_ok {s : State} {u : Miller} (h : millerStep s.ml = .ok u) :
    exec .mlstep s = .next (s.setMl u).advance := by
  change commitMl (millerStep s.ml) s = _
  rw [h, commitMl]

/-- Settles O46: T is not of order 2, so each step's line can be formed; the images of Q have the constants' digits. -/
theorem mlstepFrobenius : Obligations.MlstepFrobenius := by
  intro s x y xq yq xp yp ht hy hq hp
  refine ⟨fun hst => ?_, fun hst => ?_⟩
  · have himage := congrArg g2Frob1 hq
    rw [g2Frob1_aff, xi_pow_P_sub_one_div_three, xi_pow_P_sub_one_div_two] at himage
    obtain ⟨l, hl, hadd⟩ := exists_lineAndAdd s.ml.f ht himage hp hy
    exact ⟨_, _, l, rfl, rfl, hl, exec_mlstep_of_ok (millerStep_of_frob1 hst hadd)⟩
  · have himage := congrArg (fun q => g2Neg (g2Frob2 q)) hq
    rw [g2Neg_g2Frob2_aff, xi_pow_P_sq_sub_one_div_three] at himage
    obtain ⟨l, hl, hadd⟩ := exists_lineAndAdd s.ml.f ht himage hp hy
    exact ⟨_, l, rfl, hl, exec_mlstep_of_ok (millerStep_of_frob2 hst hadd)⟩

end Sys2Proof.Machine
end

section
/-! Fp6's ring operations: the sums coefficient by coefficient, the product in the schoolbook and the Karatsuba form
(44_fp6.md R290, R291, R294 to R299). -/

namespace Sys2Proof.Machine

/-! ## Sums and negatives, coefficient by coefficient -/

theorem coeffAt_zipWith {f : Fp → Fp → Fp} (hf : f Fp.zero Fp.zero = Fp.zero) {as bs : List Fp}
    (hlen : as.length = bs.length) (k : Nat) :
    coeffAt (List.zipWith f as bs) k = f (coeffAt as k) (coeffAt bs k) := by
  simp only [coeffAt, List.getD_eq_getElem?_getD, List.getElem?_zipWith]
  by_cases hk : k < bs.length
  · simp [hlen, hk]
  · simp [hlen, hk, hf]

theorem coeffAt_map {f : Fp → Fp} (hf : f Fp.zero = Fp.zero) (as : List Fp) (k : Nat) :
    coeffAt (as.map f) k = f (coeffAt as k) := by
  rw [coeffAt, coeffAt, ← List.getD_map (f := f), hf]

theorem fp6_coeffs_add (a b : Fp6) : (a.add b).coeffs = List.zipWith Fp.add a.coeffs b.coeffs := rfl
theorem fp6_coeffs_sub (a b : Fp6) : (a.sub b).coeffs = List.zipWith Fp.sub a.coeffs b.coeffs := rfl
theorem fp6_coeffs_neg (a : Fp6) : a.neg.coeffs = a.coeffs.map Fp.neg := rfl

theorem intCast_val_coeffAt_fp6_add (a b : Fp6) (k : Nat) : ((coeffAt (a.add b).coeffs k).val : Int) =
    (((coeffAt a.coeffs k).val : Int) + (coeffAt b.coeffs k).val) % P := by
  rw [fp6_coeffs_add, coeffAt_zipWith (by decide) (a.length_coeffs.trans b.length_coeffs.symm), intCast_val_fp_add]

theorem intCast_val_coeffAt_fp6_sub (a b : Fp6) (k : Nat) : ((coeffAt (a.sub b).coeffs k).val : Int) =
    (((coeffAt a.coeffs k).val : Int) - (coeffAt b.coeffs k).val) % P := by
  rw [fp6_coeffs_sub, coeffAt_zipWith (by decide) (a.length_coeffs.trans b.length_coeffs.symm), intCast_val_fp_sub]

theorem intCast_val_coeffAt_fp6_neg (a : Fp6) (k : Nat) : ((coeffAt a.neg.coeffs k).val : Int) =
    (-((coeffAt a.coeffs k).val : Int)) % P := by
  rw [fp6_coeffs_neg, coeffAt_map (by decide), intCast_val_fp_neg_eq_neg_emod]

/-! ## The product -/

/-- The model's product has the schoolbook form by its definition; the Karatsuba form agrees with it in Fp2's ring. -/
theorem isProdFp6_mul (a b : Fp6) : IsProdFp6 a b (a.mul b) := by
  let _ := fp2_ringLaws.commRing
  simp only [IsProdFp6, Fp6.mul, fp2_mulXi_eq_mul, fp2_ringLaws.ops_eq, true_and]
  refine ⟨?_, ?_, ?_⟩ <;> ring

/-- MUL.FP6 of two operands that are read (44_fp6.md R296). -/
theorem exec_mulFp6_of_srcs {s : State} {rd rs1 rs2 : RegIdx} {a b : Fp6}
    (hsrcs : srcs s rs1 asFp6 rs2 asFp6 = .ok (a, b)) :
    exec (.mulFp6 rd rs1 rs2) s = .next (s.setReg rd (.fp6 (a.mul b))).advance := by
  change execMulFp6 rd rs1 rs2 s = _
  rw [execMulFp6, hsrcs]
  rfl

/-- Settles O22: the operands are read, each coefficient of a sum is Fp's, and the product has both forms. -/
theorem fp6RingResults : Obligations.Fp6RingResults := by
  intro s rd rs1 a ha
  have hsrc : src s rs1 asFp6 = .ok a := src_of_reg ha nofun rfl
  refine ⟨fun rs2 b hb => ?_, ⟨a.neg, fun k _ => intCast_val_coeffAt_fp6_neg a k, commitReg_map_ok _ hsrc⟩,
    ⟨a.mul a, isProdFp6_mul a a, commitReg_map_ok _ hsrc⟩⟩
  have hsrcs : srcs s rs1 asFp6 rs2 asFp6 = .ok (a, b) := srcs_of_reg ha hb nofun nofun rfl rfl
  exact ⟨⟨a.add b, fun k _ => intCast_val_coeffAt_fp6_add a b k, commitReg_map_ok _ hsrcs⟩,
    ⟨a.sub b, fun k _ => intCast_val_coeffAt_fp6_sub a b k, commitReg_map_ok _ hsrcs⟩,
    ⟨a.mul b, isProdFp6_mul a b, exec_mulFp6_of_srcs hsrcs⟩⟩

end Sys2Proof.Machine
end

section
/-! INV in Fp6 and Fp12: the inverse exists and is the only one (44_fp6.md R297, 45_fp12.md R327). -/

namespace Sys2Proof.Machine

/-- In a ring with the model's laws a value has at most one inverse. -/
theorem RingLaws.inverse_unique {T : Type} {zero one : T} {add sub mul : T → T → T} {neg : T → T}
    (h : RingLaws zero one add sub mul neg) {a v w : T} (hv : mul a v = one) (hw : mul a w = one) : w = v := by
  let _ := h.commRing
  exact left_inv_eq_right_inv ((h.mul_comm w a).trans hw) hv

theorem fp6_ne_zero_of_coeffAt {a : Fp6} (h : ∃ k < 6, (coeffAt a.coeffs k).val ≠ 0) : a ≠ Fp6.zero := by
  simpa [fp6_eq_zero_iff] using h

theorem fp12_ne_zero_of_coeffAt {a : Fp12} (h : ∃ k < 12, (coeffAt a.coeffs k).val ≠ 0) : a ≠ Fp12.zero := by
  simpa [fp12_eq_zero_iff] using h

/-- Settles O26: a nonzero operand is read, its inverse has product 1 with it, and the ring laws leave no other. -/
theorem inverseFp6Fp12 : Obligations.InverseFp6Fp12 := by
  intro s rd rs1
  refine ⟨fun a ha hne => ?_, fun a ha hne => ?_⟩
  · have hne0 := fp6_ne_zero_of_coeffAt hne
    have hinv := fp6_mul_inv hne0
    exact ⟨a.inv, hinv, fun _ => fp6_ringLaws.inverse_unique hinv,
      commitReg_inv_of_ne_zero (fun a => .fp6 a.inv) (src_of_reg (want := asFp6) ha nofun rfl) hne0⟩
  · have hne0 := fp12_ne_zero_of_coeffAt hne
    have hinv := fp12_mul_inv hne0
    exact ⟨a.inv, hinv, fun _ => fp12_ringLaws.inverse_unique hinv,
      commitReg_inv_of_ne_zero (fun a => .fp12 a.inv) (src_of_reg (want := asFp12) ha nofun rfl) hne0⟩

end Sys2Proof.Machine
end

section
/-! FROB in Fp6 and Fp12: one round is the power P, since w^6 = v^3 = ξ makes the constants γ1 the factors of w^P and
v^P; and the power P^6 is the identity on Fp6, the power P^12 on Fp12 (44_fp6.md R301, 45_fp12.md R333, R336). -/

namespace Sys2Proof.Machine

/-! ## Roots of a value of a subring, and rounds of a period -/

section Root
variable {R K : Type} [CommRing R] [CommRing K] (f : R →+* K) {w : K} {x : R} {n m q : Nat}

/-- If w^n = x, then w^(n·m + 1) = x^m·w. -/
theorem root_pow_eq (hw : w ^ n = f x) (hq : q = n * m + 1) : w ^ q = f (x ^ m) * w := by
  rw [hq, pow_succ, pow_mul, hw, map_pow]

theorem root_pow_eq_self (hw : w ^ n = f x) (hq : q = n * m + 1) (hx : x ^ m = 1) : w ^ q = w := by
  rw [root_pow_eq f hw hq, hx, map_one, one_mul]

/-- Rounds that each take the power q, counted mod n, take the power q^k where the power q^n is the identity. -/
theorem iterate_mod_eq_pow {round : K → K} (hround : ∀ x, round x = x ^ q) {a : K} (hperiod : a ^ (q ^ n) = a)
    (k : Nat) : round^[k % n] a = a ^ (q ^ k) := by
  obtain rfl : round = (· ^ q) := funext hround
  have hfix : Function.IsPeriodicPt (· ^ q) n a := by
    rw [Function.IsPeriodicPt, pow_iterate]
    exact hperiod
  rw [hfix.iterate_mod_apply, pow_iterate]

end Root

/-! ## Fp2's powers, in its ring -/

theorem fp2_pow_eq_npow (a : Fp2) (e : Nat) :
    letI := fp2_ringLaws.commRing
    a.pow e = a ^ e :=
  (fp2_pow_eq_iterate a e).trans (fp2_ringLaws.iterate_mul_eq_pow a e)

theorem fp2_xi_pow_eq_one {m : Nat} (h : P ^ 2 - 1 ∣ m) :
    letI := fp2_ringLaws.commRing
    Fp2.xi ^ m = 1 := by
  let _ := fp2_ringLaws.commRing
  obtain ⟨j, rfl⟩ := h
  rw [pow_mul, fp2_pow_sq_sub_one (by decide), one_pow]

/-- γ1 is multiplicative, since 6 divides P − 1 (45_fp12.md R336). -/
theorem gamma1_add (i j : Nat) : gamma1 (i + j) = (gamma1 i).mul (gamma1 j) := by
  have hdvd : 6 ∣ i * (P - 1) := Dvd.dvd.mul_left (by decide) i
  let _ := fp2_ringLaws.commRing
  rw [gamma1, Nat.add_mul, Nat.add_div_of_dvd_right hdvd, fp2_pow_eq_npow, pow_add, ← fp2_pow_eq_npow,
    ← fp2_pow_eq_npow]
  rfl

theorem gamma1_zero : gamma1 0 = Fp2.one := by
  rw [gamma1, Nat.zero_mul, Nat.zero_div, Fp2.pow, sqMul_zero]

/-! ## Fp6 over Fp2 -/

theorem fp6_ofFp2_add (a b : Fp2) : Fp6.ofFp2 (a.add b) = (Fp6.ofFp2 a).add (Fp6.ofFp2 b) := by
  let _ := fp2_ringLaws.commRing
  apply Fp6.ext_coeffs <;> simp only [Fp6.ofFp2, Fp6.add, fp2_ringLaws.ops_eq] <;> ring

theorem fp6_ofFp2_mul (a b : Fp2) : Fp6.ofFp2 (a.mul b) = (Fp6.ofFp2 a).mul (Fp6.ofFp2 b) := by
  let _ := fp2_ringLaws.commRing
  apply Fp6.ext_coeffs <;> simp only [Fp6.ofFp2, Fp6.mul, fp2_mulXi_eq_mul, fp2_ringLaws.ops_eq] <;> ring

/-- An Fp2 value as (c, 0, 0), with Fp6's operations (44_fp6.md R304). -/
def fp6OfFp2Hom :
    letI := fp2_ringLaws.commRing
    letI := fp6_ringLaws.commRing
    Fp2 →+* Fp6 :=
  letI := fp2_ringLaws.commRing
  letI := fp6_ringLaws.commRing
  { toFun := Fp6.ofFp2
    map_zero' := rfl
    map_one' := rfl
    map_add' := fp6_ofFp2_add
    map_mul' := fp6_ofFp2_mul }

theorem fp6_charP :
    letI := fp6_ringLaws.commRing
    CharP Fp6 P := by
  let _ := fp2_ringLaws.commRing
  let _ := fp6_ringLaws.commRing
  have := fp2_charP
  exact charP_of_injective_ringHom (f := fp6OfFp2Hom) (fun _ _ h => congrArg Fp6.c0 h) P

/-- The root v of ξ (44_fp6.md R290). -/
def fp6V : Fp6 := ⟨Fp2.zero, Fp2.one, Fp2.zero⟩

theorem fp6V_pow_three :
    letI := fp2_ringLaws.commRing
    letI := fp6_ringLaws.commRing
    fp6V ^ 3 = fp6OfFp2Hom Fp2.xi := by
  let _ := fp6_ringLaws.commRing
  rw [pow_succ, pow_two]
  exact (by decide : (fp6V.mul fp6V).mul fp6V = Fp6.ofFp2 Fp2.xi)

theorem fp6_eq_polynomial (a : Fp6) :
    letI := fp2_ringLaws.commRing
    letI := fp6_ringLaws.commRing
    a = fp6OfFp2Hom a.c0 + fp6OfFp2Hom a.c1 * fp6V + fp6OfFp2Hom a.c2 * fp6V ^ 2 := by
  let _ := fp2_ringLaws.commRing
  let _ := fp6_ringLaws.commRing
  have h : a = ((Fp6.ofFp2 a.c0).add ((Fp6.ofFp2 a.c1).mul fp6V)).add ((Fp6.ofFp2 a.c2).mul (fp6V.mul fp6V)) := by
    apply Fp6.ext_coeffs <;>
      simp only [fp6V, Fp6.ofFp2, Fp6.mul, Fp6.add, fp2_mulXi_eq_mul, fp2_ringLaws.ops_eq] <;> ring
  rw [pow_two]
  exact h

theorem fp6V_pow_P :
    letI := fp2_ringLaws.commRing
    letI := fp6_ringLaws.commRing
    fp6V ^ P = fp6OfFp2Hom (gamma1 2) * fp6V := by
  let _ := fp2_ringLaws.commRing
  let _ := fp6_ringLaws.commRing
  rw [gamma1, fp2_pow_eq_npow]
  exact root_pow_eq fp6OfFp2Hom fp6V_pow_three (by decide)

/-- One round is the power P (44_fp6.md R301). -/
theorem fp6_frobRound_eq_pow (a : Fp6) :
    letI := fp6_ringLaws.commRing
    a.frobRound = a ^ P := by
  have : Fact P.Prime := ⟨P_prime⟩
  let _ := fp2_ringLaws.commRing
  let _ := fp6_ringLaws.commRing
  have := fp6_charP
  have hconj (c : Fp2) : fp6OfFp2Hom c ^ P = fp6OfFp2Hom c.conj := by
    rw [← map_pow, ← fp2_pow_eq_npow, fp2_pow_P]
  conv_rhs => rw [fp6_eq_polynomial a, add_pow_char, add_pow_char, mul_pow, mul_pow, pow_right_comm fp6V, fp6V_pow_P,
    hconj, hconj, hconj]
  rw [fp6_eq_polynomial a.frobRound, Fp6.frobRound, gamma1_add 2 2]
  simp only [fp2_ringLaws.ops_eq, map_mul]
  ring

theorem fp2_pow_P_pow_six (a : Fp2) :
    letI := fp2_ringLaws.commRing
    a ^ (P ^ 6) = a := by
  rw [← fp2_pow_eq_npow, fp2_pow_P_pow]
  rfl

/-- The power P^6 fixes Fp2, and v since (P^6 − 1)/3 is a multiple of P² − 1. -/
theorem fp6_pow_P_pow_six (a : Fp6) :
    letI := fp6_ringLaws.commRing
    a ^ (P ^ 6) = a := by
  have : Fact P.Prime := ⟨P_prime⟩
  let _ := fp2_ringLaws.commRing
  let _ := fp6_ringLaws.commRing
  have := fp6_charP
  have hbase (c : Fp2) : fp6OfFp2Hom c ^ (P ^ 6) = fp6OfFp2Hom c := by rw [← map_pow, fp2_pow_P_pow_six]
  have hv : fp6V ^ (P ^ 6) = fp6V :=
    root_pow_eq_self (m := (P ^ 6 - 1) / 3) fp6OfFp2Hom fp6V_pow_three (by decide) (fp2_xi_pow_eq_one (by decide))
  conv_lhs => rw [fp6_eq_polynomial a, add_pow_char_pow, add_pow_char_pow, mul_pow, mul_pow, pow_right_comm fp6V, hv,
    hbase, hbase, hbase]
  exact (fp6_eq_polynomial a).symm

/-- FROB.FP6's map is the power P^k (44_fp6.md R301). -/
theorem fp6_pow_P_pow (a : Fp6) (k : Nat) : a.pow (P ^ k) = a.frob k := by
  let _ := fp6_ringLaws.commRing
  rw [fp6_pow_eq_iterate, fp6_ringLaws.iterate_mul_eq_pow]
  exact (iterate_mod_eq_pow fp6_frobRound_eq_pow (fp6_pow_P_pow_six a) k).symm

/-! ## Fp12 over Fp6 -/

theorem fp12_ofFp6_add (a b : Fp6) : Fp12.ofFp6 (a.add b) = (Fp12.ofFp6 a).add (Fp12.ofFp6 b) := by
  let _ := fp6_ringLaws.commRing
  apply Fp12.ext_coeffs <;> simp only [Fp12.ofFp6, Fp12.add, fp6_ringLaws.ops_eq]
  ring

theorem fp12_ofFp6_mul (a b : Fp6) : Fp12.ofFp6 (a.mul b) = (Fp12.ofFp6 a).mul (Fp12.ofFp6 b) := by
  let _ := fp6_ringLaws.commRing
  apply Fp12.ext_coeffs <;> simp only [Fp12.ofFp6, Fp12.mul, fp6_mulV_eq_mul, fp6_ringLaws.ops_eq] <;> ring

/-- An Fp6 value as (c, 0), with Fp12's operations (45_fp12.md R337). -/
def fp12OfFp6Hom :
    letI := fp6_ringLaws.commRing
    letI := fp12_ringLaws.commRing
    Fp6 →+* Fp12 :=
  letI := fp6_ringLaws.commRing
  letI := fp12_ringLaws.commRing
  { toFun := Fp12.ofFp6
    map_zero' := rfl
    map_one' := rfl
    map_add' := fp12_ofFp6_add
    map_mul' := fp12_ofFp6_mul }

/-- An Fp2 value in Fp12, with Fp12's operations. -/
def fp12OfFp2Hom :
    letI := fp2_ringLaws.commRing
    letI := fp12_ringLaws.commRing
    Fp2 →+* Fp12 :=
  letI := fp2_ringLaws.commRing
  letI := fp6_ringLaws.commRing
  letI := fp12_ringLaws.commRing
  fp12OfFp6Hom.comp fp6OfFp2Hom

theorem fp12_charP :
    letI := fp12_ringLaws.commRing
    CharP Fp12 P := by
  let _ := fp6_ringLaws.commRing
  let _ := fp12_ringLaws.commRing
  have := fp6_charP
  exact charP_of_injective_ringHom (f := fp12OfFp6Hom) (fun _ _ h => congrArg Fp12.c0 h) P

/-- The root w of v (45_fp12.md R320). -/
def fp12W : Fp12 := ⟨Fp6.zero, Fp6.one⟩

/-- w² = v, and v³ = ξ. -/
theorem fp12W_pow_six :
    letI := fp2_ringLaws.commRing
    letI := fp12_ringLaws.commRing
    fp12W ^ 6 = fp12OfFp2Hom Fp2.xi := by
  let _ := fp2_ringLaws.commRing
  let _ := fp6_ringLaws.commRing
  let _ := fp12_ringLaws.commRing
  have hsq : fp12W ^ 2 = fp12OfFp6Hom fp6V := by
    rw [pow_two]
    exact (by decide : fp12W.mul fp12W = Fp12.ofFp6 fp6V)
  rw [pow_mul fp12W 2 3, hsq, ← map_pow, fp6V_pow_three]
  rfl

theorem fp12_eq_polynomial (a : Fp12) :
    letI := fp6_ringLaws.commRing
    letI := fp12_ringLaws.commRing
    a = fp12OfFp6Hom a.c0 + fp12OfFp6Hom a.c1 * fp12W := by
  have h : a = (Fp12.ofFp6 a.c0).add ((Fp12.ofFp6 a.c1).mul fp12W) := by
    let _ := fp6_ringLaws.commRing
    apply Fp12.ext_coeffs <;>
      simp only [fp12W, Fp12.ofFp6, Fp12.mul, Fp12.add, fp6_mulV_eq_mul, fp6_ringLaws.ops_eq] <;> ring
  exact h

theorem fp12W_pow_P :
    letI := fp2_ringLaws.commRing
    letI := fp12_ringLaws.commRing
    fp12W ^ P = fp12OfFp2Hom (gamma1 1) * fp12W := by
  let _ := fp2_ringLaws.commRing
  let _ := fp12_ringLaws.commRing
  rw [gamma1, fp2_pow_eq_npow]
  exact root_pow_eq fp12OfFp2Hom fp12W_pow_six (by decide)

/-- Fp12's round is Fp6's on each half, with the factor γ1[1] of w^P on the second. -/
theorem fp12_frobRound_eq (a : Fp12) :
    a.frobRound = ⟨a.c0.frobRound, a.c1.frobRound.mul (Fp6.ofFp2 (gamma1 1))⟩ := by
  have h3 : gamma1 3 = (gamma1 2).mul (gamma1 1) := gamma1_add 2 1
  have h5 : gamma1 5 = (gamma1 4).mul (gamma1 1) := gamma1_add 4 1
  let _ := fp2_ringLaws.commRing
  apply Fp12.ext_coeffs <;> apply Fp6.ext_coeffs <;>
    simp only [Fp12.frobRound, Fp12.ofW, Fp6.frobRound, Fp6.ofFp2, Fp6.mul, fp2_mulXi_eq_mul, gamma1_zero, h3, h5,
      fp2_ringLaws.ops_eq] <;> ring

/-- One round is the power P (45_fp12.md R333). -/
theorem fp12_frobRound_eq_pow (a : Fp12) :
    letI := fp12_ringLaws.commRing
    a.frobRound = a ^ P := by
  have : Fact P.Prime := ⟨P_prime⟩
  let _ := fp2_ringLaws.commRing
  let _ := fp6_ringLaws.commRing
  let _ := fp12_ringLaws.commRing
  have := fp12_charP
  have hround (c : Fp6) : fp12OfFp6Hom c ^ P = fp12OfFp6Hom c.frobRound := by
    rw [← map_pow, fp6_frobRound_eq_pow]
  have hgamma (c : Fp6) :
      fp12OfFp6Hom (c.mul (Fp6.ofFp2 (gamma1 1))) = fp12OfFp6Hom c * fp12OfFp2Hom (gamma1 1) :=
    map_mul fp12OfFp6Hom _ _
  conv_rhs => rw [fp12_eq_polynomial a, add_pow_char, mul_pow, fp12W_pow_P, hround, hround]
  rw [fp12_eq_polynomial a.frobRound, fp12_frobRound_eq, hgamma, mul_assoc]

/-- The power P^12 fixes Fp6, and w since (P^12 − 1)/6 is a multiple of P² − 1. -/
theorem fp12_pow_P_pow_twelve (a : Fp12) :
    letI := fp12_ringLaws.commRing
    a ^ (P ^ 12) = a := by
  have : Fact P.Prime := ⟨P_prime⟩
  let _ := fp2_ringLaws.commRing
  let _ := fp6_ringLaws.commRing
  let _ := fp12_ringLaws.commRing
  have := fp12_charP
  have hbase (c : Fp6) : fp12OfFp6Hom c ^ (P ^ 12) = fp12OfFp6Hom c := by
    rw [← map_pow, pow_add P 6 6, pow_mul, fp6_pow_P_pow_six, fp6_pow_P_pow_six]
  have hw : fp12W ^ (P ^ 12) = fp12W :=
    root_pow_eq_self (m := (P ^ 12 - 1) / 6) fp12OfFp2Hom fp12W_pow_six (by decide) (fp2_xi_pow_eq_one (by decide))
  conv_lhs => rw [fp12_eq_polynomial a, add_pow_char_pow, mul_pow, hw, hbase, hbase]
  exact (fp12_eq_polynomial a).symm

/-- FROB.FP12's map is the power P^k (45_fp12.md R333). -/
theorem fp12_pow_P_pow (a : Fp12) (k : Nat) : a.pow (P ^ k) = a.frob k := by
  let _ := fp12_ringLaws.commRing
  rw [fp12_pow_eq_iterate, fp12_ringLaws.iterate_mul_eq_pow]
  exact (iterate_mod_eq_pow fp12_frobRound_eq_pow (fp12_pow_P_pow_twelve a) k).symm

/-- Settles O30: each round is one power P, and the rounds that k mod 6 and k mod 12 leave out are the identity. -/
theorem frobeniusFp6Fp12 : Obligations.FrobeniusFp6Fp12 := by
  intro s rd rs1 k
  refine ⟨fun a ha => ?_, fun a ha => ?_⟩
  · rw [← fp6_pow_eq_iterate, fp6_pow_P_pow]
    exact commitReg_map_ok _ (src_of_reg (want := asFp6) ha nofun rfl)
  · rw [← fp12_pow_eq_iterate, fp12_pow_P_pow]
    exact commitReg_map_ok _ (src_of_reg (want := asFp12) ha nofun rfl)

end Sys2Proof.Machine
end

section
/-! Fp12's ring operations: the sums coefficient by coefficient, the product in the schoolbook and the Karatsuba form,
and CONJ, which negates the second half (45_fp12.md R320, R321, R325, R326, R328 to R330, R332). -/

namespace Sys2Proof.Machine

/-! ## Sums, negatives and the involution, coefficient by coefficient -/

theorem fp12_coeffs_add (a b : Fp12) : (a.add b).coeffs = List.zipWith Fp.add a.coeffs b.coeffs := rfl
theorem fp12_coeffs_sub (a b : Fp12) : (a.sub b).coeffs = List.zipWith Fp.sub a.coeffs b.coeffs := rfl
theorem fp12_coeffs_neg (a : Fp12) : a.neg.coeffs = a.coeffs.map Fp.neg := rfl

theorem intCast_val_coeffAt_fp12_add (a b : Fp12) (k : Nat) : ((coeffAt (a.add b).coeffs k).val : Int) =
    (((coeffAt a.coeffs k).val : Int) + (coeffAt b.coeffs k).val) % P := by
  rw [fp12_coeffs_add, coeffAt_zipWith (by decide) (a.length_coeffs.trans b.length_coeffs.symm), intCast_val_fp_add]

theorem intCast_val_coeffAt_fp12_sub (a b : Fp12) (k : Nat) : ((coeffAt (a.sub b).coeffs k).val : Int) =
    (((coeffAt a.coeffs k).val : Int) - (coeffAt b.coeffs k).val) % P := by
  rw [fp12_coeffs_sub, coeffAt_zipWith (by decide) (a.length_coeffs.trans b.length_coeffs.symm), intCast_val_fp_sub]

theorem intCast_val_coeffAt_fp12_neg (a : Fp12) (k : Nat) : ((coeffAt a.neg.coeffs k).val : Int) =
    (-((coeffAt a.coeffs k).val : Int)) % P := by
  rw [fp12_coeffs_neg, coeffAt_map (by decide), intCast_val_fp_neg_eq_neg_emod]

/-- The involution keeps the first half. -/
theorem coeffAt_fp12_conj_of_lt (a : Fp12) {k : Nat} (hk : k < 6) : coeffAt a.conj.coeffs k = coeffAt a.coeffs k :=
  (List.getD_append a.c0.coeffs a.c1.neg.coeffs _ k hk).trans
    (List.getD_append a.c0.coeffs a.c1.coeffs _ k hk).symm

/-- The second half of the involution is that of the negative. -/
theorem coeffAt_fp12_conj_of_ge (a : Fp12) {k : Nat} (hk : 6 ≤ k) :
    coeffAt a.conj.coeffs k = coeffAt a.neg.coeffs k :=
  (List.getD_append_right a.c0.coeffs a.c1.neg.coeffs _ k hk).trans
    (List.getD_append_right a.c0.neg.coeffs a.c1.neg.coeffs _ k hk).symm

theorem intCast_val_coeffAt_fp12_conj (a : Fp12) (k : Nat) : ((coeffAt a.conj.coeffs k).val : Int) =
    if k < 6 then ((coeffAt a.coeffs k).val : Int) else (-((coeffAt a.coeffs k).val : Int)) % P := by
  split
  · next hk => rw [coeffAt_fp12_conj_of_lt a hk]
  · next hk => rw [coeffAt_fp12_conj_of_ge a (Nat.le_of_not_lt hk), intCast_val_coeffAt_fp12_neg]

/-! ## The product -/

/-- The model's product has the schoolbook form by its definition; the Karatsuba form agrees with it in Fp6's ring. -/
theorem isProdFp12_mul (a b : Fp12) : IsProdFp12 a b (a.mul b) := by
  refine ⟨?_, rfl, ?_⟩
  · rw [← fp2_mulXi_eq_mul]
    rfl
  · let _ := fp6_ringLaws.commRing
    simp only [Fp12.mul, fp6_ringLaws.ops_eq]
    ring

/-- MUL.FP12 of two operands that are read (45_fp12.md R329). -/
theorem exec_mulFp12_of_srcs {s : State} {rd rs1 rs2 : RegIdx} {a b : Fp12}
    (hsrcs : srcs s rs1 asFp12 rs2 asFp12 = .ok (a, b)) :
    exec (.mulFp12 rd rs1 rs2) s = .next (s.setReg rd (.fp12 (a.mul b))).advance := by
  change execMulFp12 rd rs1 rs2 s = _
  rw [execMulFp12, hsrcs]
  rfl

/-- Settles O23: the operands are read, each coefficient of a sum or of the involution is Fp's, and the product has both
forms. -/
theorem fp12RingResults : Obligations.Fp12RingResults := by
  intro s rd rs1 a ha
  have hsrc : src s rs1 asFp12 = .ok a := src_of_reg ha nofun rfl
  refine ⟨fun rs2 b hb => ?_, ⟨a.neg, fun k _ => intCast_val_coeffAt_fp12_neg a k, commitReg_map_ok _ hsrc⟩,
    ⟨a.mul a, isProdFp12_mul a a, commitReg_map_ok _ hsrc⟩,
    ⟨a.conj, fun k _ => intCast_val_coeffAt_fp12_conj a k, commitReg_map_ok _ hsrc⟩⟩
  have hsrcs : srcs s rs1 asFp12 rs2 asFp12 = .ok (a, b) := srcs_of_reg ha hb nofun nofun rfl rfl
  exact ⟨⟨a.add b, fun k _ => intCast_val_coeffAt_fp12_add a b k, commitReg_map_ok _ hsrcs⟩,
    ⟨a.sub b, fun k _ => intCast_val_coeffAt_fp12_sub a b k, commitReg_map_ok _ hsrcs⟩,
    ⟨a.mul b, isProdFp12_mul a b, exec_mulFp12_of_srcs hsrcs⟩⟩

end Sys2Proof.Machine
end

section
/-! Sums of points by their slopes, and the .G1 and .G2 instructions on points (46_g1.md R360 to R369, 47_g2.md R390 to
R400). -/

namespace Sys2Proof.Machine

/-! ## The sum is the one of the chord-and-tangent law, over any field's operations -/

section Sum
variable {F : Type} {o : FieldOps F} {one b : F} (h : RingLaws o.zero one o.add o.sub o.mul o.neg)
include h

theorem sub_ne_zero_of_laws {a c : F} (hac : c ≠ a) : o.sub a c ≠ o.zero := by
  let _ := h.commRing
  exact sub_ne_zero.2 hac.symm

variable [DecidableEq F] (hinv : ∀ a, a ≠ o.zero → o.mul a (o.inv a) = one)
include hinv

/-- Two points with one x-coordinate that are not opposite are equal, and the tangent is theirs. -/
theorem isSum_tangent {x y1 y2 : F} (hp : OnCurve o b (.aff x y1)) (hq : OnCurve o b (.aff x y2))
    (hy : o.add y1 y2 ≠ o.zero) : IsSum o (.aff x y1) (.aff x y2) (ptAdd o (.aff x y1) (.aff x y2)) := by
  obtain rfl := y_eq_of_onCurve h hinv hp hq hy
  rw [ptAdd_tangent o hy]
  exact .inr ⟨.inr hy, _, _, _, fun _ => tangentSlope_mul h hinv x hy, fun hx => absurd rfl hx, rfl, rfl, rfl⟩

theorem isSum_chord {x1 y1 x2 y2 : F} (hx : x1 ≠ x2) :
    IsSum o (.aff x1 y1) (.aff x2 y2) (ptAdd o (.aff x1 y1) (.aff x2 y2)) := by
  rw [ptAdd_chord o hx]
  exact .inr ⟨.inl hx, _, _, _, fun h' => absurd h' hx,
    fun _ => chordSlope_mul h hinv y1 y2 (sub_ne_zero_of_laws h hx), rfl, rfl, rfl⟩

theorem isSum_ptAdd {p q : Pt F} (hp : OnCurve o b p) (hq : OnCurve o b q) : IsSum o p q (ptAdd o p q) := by
  cases p with
  | inf => exact ptAdd_inf_left o q
  | aff x1 y1 =>
    cases q with
    | inf => rfl
    | aff x2 y2 =>
      by_cases hx : x1 = x2
      · subst hx
        by_cases hy : o.add y1 y2 = o.zero
        · exact .inl ⟨rfl, hy, ptAdd_opposite o hy⟩
        · exact isSum_tangent h hinv hp hq hy
      · exact isSum_chord h hinv hx

end Sum

theorem isSum_g1Add {p q : G1} (hp : g1OnCurve p = true) (hq : g1OnCurve q = true) :
    IsSum fpOps p q (g1Add p q) :=
  isSum_ptAdd (o := fpOps) fp_ringLaws (fun _ => fp_mul_inv) ((g1OnCurve_iff p).1 hp) ((g1OnCurve_iff q).1 hq)

/-! ## PADD and PDBL -/

/-- R362's tag of a sum. -/
theorem ofG1_join (m n : Form) (r : G1) :
    ofG1 (m.join n) r = if m = .aff ∧ n = .aff then .g1 r else .g1j r := by
  cases m <;> cases n <;> rfl

theorem src_of_ofG1 {s : State} {rs1 : RegIdx} {m : Form} {p : G1} (hp : s.reg rs1 = ofG1 m p) :
    src s rs1 asG1 = .ok (m, p) := src_of_reg hp (ofG1_ne_empty m p) (asG1_ofG1 m p)

theorem src_of_ofG2 {s : State} {rs1 : RegIdx} {m : Form} {q : G2} (hq : s.reg rs1 = ofG2 m q) :
    src s rs1 asG2 = .ok (m, q) := src_of_reg hq (ofG2_ne_empty m q) (asG2_ofG2 m q)

/-- Settles O33: the operands are read, and the law's slopes times their denominators are its numerators. -/
theorem pointAddG1 : Obligations.PointAddG1 := by
  intro s rd rs1 m p hp hpc
  refine ⟨fun rs2 n q hq hqc => ⟨g1Add p q, isSum_g1Add hpc hqc, ?_⟩, ⟨g1Add p p, isSum_g1Add hpc hpc, ?_⟩⟩
  · have hsrcs : srcs s rs1 asG1 rs2 asG1 = .ok ((m, p), (n, q)) :=
      srcs_of_reg hp hq (ofG1_ne_empty m p) (ofG1_ne_empty n q) (asG1_ofG1 m p) (asG1_ofG1 n q)
    rw [← ofG1_join]
    exact commitReg_map_ok _ hsrcs
  · exact commitReg_map_ok _ (src_of_ofG1 hp)

/-! ## PNEG, PTOJ and PTOA -/

/-- Settles O35: the operand is read; a negative has the y-coordinate −y mod P, and a new tag leaves the point alone. -/
theorem pointUnaryResults : Obligations.PointUnaryResults := by
  intro s rd rs1
  refine ⟨fun m hp => ?_, fun m x y hp => ⟨y.neg, intCast_val_fp_neg_eq_neg_emod y, ?_⟩, fun m hp => ?_,
    fun m x y hp => ⟨y.neg, intCast_val_fp_neg_eq_neg_emod y.c0, intCast_val_fp_neg_eq_neg_emod y.c1, ?_⟩,
    fun p => ⟨fun hp => commitReg_map_ok .g1j (src_of_reg (want := asG1Aff) hp nofun rfl),
      fun hp => commitReg_map_ok .g1 (src_of_reg (want := asG1Jac) hp nofun rfl)⟩,
    fun p => ⟨fun hp => commitReg_map_ok .g2j (src_of_reg (want := asG2Aff) hp nofun rfl),
      fun hp => commitReg_map_ok .g2 (src_of_reg (want := asG2Jac) hp nofun rfl)⟩⟩
  · exact commitReg_map_ok _ (src_of_ofG1 hp)
  · exact commitReg_map_ok _ (src_of_ofG1 hp)
  · exact commitReg_map_ok _ (src_of_ofG2 hp)
  · exact commitReg_map_ok _ (src_of_ofG2 hp)

/-! ## PMUL: square and multiply from the lowest bit -/

theorem bitlen_eq_bitlen_half_add_one {e : Nat} (he : e ≠ 0) : bitlen e = bitlen (e / 2) + 1 := by
  by_cases h1 : e = 1
  · subst h1
    rfl
  · have hhalf : e / 2 ≠ 0 := by omega
    have hlog : Nat.log2 e = Nat.log2 (e / 2) + 1 := by rw [Nat.log2_def, if_pos (by omega)]
    rw [bitlen, bitlen, if_neg he, if_neg hhalf, hlog]

section Halving
variable {T : Type} (op : T → T → T) (one a : T)

/-- The loop over all bits of `e` is the loop over those of e/2 and a last round for its lowest bit. -/
theorem sqMulLoop_half (e i : Nat) (acc : T) : sqMulLoop op a e (i + 1) acc =
    sqMulLoop op a e 1 (sqMulLoop op a (e / 2) i acc) := by
  induction i generalizing acc with
  | zero => rfl
  | succ i ih => rw [sqMulLoop_succ, ih, Nat.testBit_succ, ← sqMulLoop_succ]

/-- The last round goes from the power by e/2 to the power by `e`. -/
theorem sqMul_half {e : Nat} (he : e ≠ 0) :
    sqMul op one a e = sqMulLoop op a e 1 (sqMul op one a (e / 2)) := by
  rw [sqMul, bitlen_eq_bitlen_half_add_one he, sqMulLoop_half, sqMul]

variable {op one} (hone : op one one = one)
include hone

theorem sqMul_two_mul (k : Nat) : sqMul op one a (2 * k) = op (sqMul op one a k) (sqMul op one a k) := by
  by_cases hk : k = 0
  · rw [hk, Nat.mul_zero, sqMul_zero, hone]
  · have hbit : (2 * k).testBit 0 = false := by rw [Nat.testBit_zero, decide_eq_false_iff_not]; omega
    have hhalf : 2 * k / 2 = k := by omega
    rw [sqMul_half op one a (by omega), sqMulLoop_succ, hbit, hhalf]
    rfl

theorem sqMul_two_mul_add_one (k : Nat) : sqMul op one a (2 * k + 1) = op (sqMul op one a (2 * k)) a := by
  have hbit : (2 * k + 1).testBit 0 = true := by rw [Nat.testBit_zero, decide_eq_true_iff]; omega
  have hhalf : (2 * k + 1) / 2 = k := by omega
  rw [sqMul_half op one a (by omega), sqMulLoop_succ, hbit, hhalf, sqMul_two_mul a hone]
  rfl

end Halving

/-- Settles O36: the operands are read, and the scalar's bits from the lowest one up give the recursion. -/
theorem pointMulResults : Obligations.PointMulResults := by
  refine ⟨fun s rd rs1 rs2 k m hk => ⟨fun p hp => ?_, fun p hp => ?_⟩,
    fun p k => ⟨rfl, sqMul_two_mul (op := g1Add) p rfl k, sqMul_two_mul_add_one (op := g1Add) p rfl k⟩,
    fun p k => ⟨rfl, sqMul_two_mul (op := g2Add) p rfl k, sqMul_two_mul_add_one (op := g2Add) p rfl k⟩⟩
  · have hsrcs : srcs s rs1 asG1 rs2 asSc = .ok ((m, p), k) :=
      srcs_of_reg hp hk (ofG1_ne_empty m p) nofun (asG1_ofG1 m p) rfl
    exact commitReg_map_ok _ hsrcs
  · have hsrcs : srcs s rs1 asG2 rs2 asSc = .ok ((m, p), k) :=
      srcs_of_reg hp hk (ofG2_ne_empty m p) nofun (asG2_ofG2 m p) rfl
    exact commitReg_map_ok _ hsrcs

end Sys2Proof.Machine
end

section
/-! The points of the curve y² = x³ + b over a field as Mathlib's group of a Weierstrass curve, and the laws of G1
(46_g1.md R371). -/

namespace Sys2Proof.Machine

/-! ## Square and multiply under a homomorphism -/

/-- What commutes with the operation commutes with square and multiply. -/
theorem sqMul_map {S T : Type} {op : S → S → S} {op' : T → T → T} (f : S → T)
    (hf : ∀ x y, f (op x y) = op' (f x) (f y)) (one a : S) (e : Nat) :
    f (sqMul op one a e) = sqMul op' (f one) (f a) e := by
  have hloop : ∀ i acc, f (sqMulLoop op a e i acc) = sqMulLoop op' (f a) e i (f acc) := by
    intro i
    induction i with
    | zero => exact fun acc => rfl
    | succ i ih =>
      intro acc
      rw [sqMulLoop_succ, sqMulLoop_succ, ih, apply_ite f, hf, hf]
  exact hloop _ _

/-! ## The model's points over a field, and Mathlib's -/

section FieldPoints
variable {K : Type} [Field K]

variable (K) in
/-- A field's operations, as the group law uses them. -/
def opsOfField : FieldOps K where
  zero := 0
  add := (· + ·)
  sub := (· - ·)
  mul := (· * ·)
  neg := (- ·)
  inv := (·⁻¹)

/-- y² = x³ + b (46_g1.md R360). -/
def shortCurve (b : K) : WeierstrassCurve.Affine K := ⟨0, 0, 0, 0, b⟩

variable {b : K}

/-- A point of Mathlib's curve as a point of the model. -/
def toPt : (shortCurve b).Point → Pt K
  | .zero => .inf
  | .some x y _ => .aff x y

theorem toPt_zero : toPt (0 : (shortCurve b).Point) = .inf := rfl

theorem negY_shortCurve (x y : K) : (shortCurve b).negY x y = -y := by
  simp only [WeierstrassCurve.Affine.negY, shortCurve]
  ring

/-- The model's test for opposite points is Mathlib's. -/
theorem add_eq_zero_iff_eq_negY (x : K) {y1 y2 : K} :
    (opsOfField K).add y1 y2 = (opsOfField K).zero ↔ y1 = (shortCurve b).negY x y2 := by
  rw [negY_shortCurve]
  exact add_eq_zero_iff_eq_neg

theorem toPt_neg (A : (shortCurve b).Point) : toPt (-A) = ptNeg (opsOfField K) (toPt A) := by
  cases A with
  | zero => rfl
  | some x y hA => exact congrArg (Pt.aff x) (negY_shortCurve x y)

theorem thirdPoint_shortCurve (lam x1 y1 x2 : K) : thirdPoint (opsOfField K) lam x1 y1 x2 =
    .aff ((shortCurve b).addX x1 x2 lam) ((shortCurve b).addY x1 x2 y1 lam) := by
  simp only [thirdPoint, opsOfField, WeierstrassCurve.Affine.addX, WeierstrassCurve.Affine.addY,
    WeierstrassCurve.Affine.negAddY, WeierstrassCurve.Affine.negY, shortCurve, Pt.aff.injEq]
  constructor <;> ring

variable [DecidableEq K]

theorem equation_of_onCurve {x y : K} (hp : OnCurve (opsOfField K) b (.aff x y)) : (shortCurve b).Equation x y := by
  rw [onCurve_aff_iff] at hp
  rw [WeierstrassCurve.Affine.equation_iff]
  simp only [opsOfField] at hp
  simp only [shortCurve]
  linear_combination hp

/-- Where the curve has no singular point, each of the model's points on it is one of Mathlib's. -/
theorem exists_toPt_eq (hdisc : (shortCurve b).Δ ≠ 0) {p : Pt K} (hp : OnCurve (opsOfField K) b p) :
    ∃ A : (shortCurve b).Point, toPt A = p := by
  cases p with
  | inf => exact ⟨0, rfl⟩
  | aff x y =>
    have hns := (WeierstrassCurve.Affine.equation_iff_nonsingular_of_Δ_ne_zero hdisc).1 (equation_of_onCurve hp)
    exact ⟨.some x y hns, rfl⟩

theorem tangentSlope_shortCurve {x y : K} (hy : y ≠ (shortCurve b).negY x y) :
    tangentSlope (opsOfField K) x y = (shortCurve b).slope x x y y := by
  rw [WeierstrassCurve.Affine.slope_of_Y_ne rfl hy, negY_shortCurve]
  simp only [tangentSlope, opsOfField, shortCurve, div_eq_mul_inv]
  ring

theorem chordSlope_shortCurve {x1 x2 : K} (y1 y2 : K) (hx : x1 ≠ x2) :
    chordSlope (opsOfField K) x1 y1 x2 y2 = (shortCurve b).slope x1 x2 y1 y2 := by
  rw [WeierstrassCurve.Affine.slope_of_X_ne hx, ← neg_div_neg_eq, neg_sub, neg_sub, div_eq_mul_inv]
  rfl

/-- The model's sum is Mathlib's. -/
theorem toPt_add (A B : (shortCurve b).Point) : toPt (A + B) = ptAdd (opsOfField K) (toPt A) (toPt B) := by
  cases A with
  | zero => exact (congrArg toPt (zero_add B)).trans (ptAdd_inf_left ..).symm
  | some x1 y1 hA =>
    cases B with
    | zero => rfl
    | some x2 y2 hB =>
      by_cases hx : x1 = x2
      · subst hx
        by_cases hy : y1 = (shortCurve b).negY x1 y2
        · rw [WeierstrassCurve.Affine.Point.add_of_Y_eq rfl hy]
          exact (ptAdd_opposite _ ((add_eq_zero_iff_eq_negY x1).2 hy)).symm
        · have hne := (add_eq_zero_iff_eq_negY x1).not.2 hy
          obtain rfl := WeierstrassCurve.Affine.Y_eq_of_Y_ne hA.1 hB.1 rfl hy
          rw [WeierstrassCurve.Affine.Point.add_of_Y_ne hy, toPt, toPt, ptAdd_tangent _ hne,
            tangentSlope_shortCurve hy, thirdPoint_shortCurve]
      · rw [WeierstrassCurve.Affine.Point.add_of_X_ne hx, toPt, toPt, toPt, ptAdd_chord _ hx,
          chordSlope_shortCurve y1 y2 hx, thirdPoint_shortCurve]

/-- The model's double-and-add is Mathlib's multiple. -/
theorem toPt_nsmul (A : (shortCurve b).Point) (k : Nat) : toPt (k • A) = ptMul (opsOfField K) (toPt A) k := by
  have hmul : sqMul (· + ·) 0 A k = k • A := by
    rw [sqMul_eq_iterate A (fun x y z => (add_assoc x y z).symm) add_zero, add_right_iterate]
    exact zero_add _
  rw [← hmul, sqMul_map toPt toPt_add]
  rfl

/-- The laws of R371 that do not name r, over a field in which y² = x³ + b has no singular point. -/
theorem ptAdd_groupLaws (hdisc : (shortCurve b).Δ ≠ 0) {p q r : Pt K} (hp : OnCurve (opsOfField K) b p)
    (hq : OnCurve (opsOfField K) b q) (hr : OnCurve (opsOfField K) b r) :
    let add := ptAdd (opsOfField K)
    let mul := ptMul (opsOfField K)
    add p q = add q p ∧ add (add p q) r = add p (add q r) ∧ add p .inf = p ∧
      add p (ptNeg (opsOfField K) p) = .inf ∧
      ∀ j k : Nat, add (mul p j) (mul p k) = mul p (j + k) ∧ mul (mul p k) j = mul p (j * k) := by
  obtain ⟨A, rfl⟩ := exists_toPt_eq hdisc hp
  obtain ⟨B, rfl⟩ := exists_toPt_eq hdisc hq
  obtain ⟨C, rfl⟩ := exists_toPt_eq hdisc hr
  simp only [← toPt_zero (b := b), ← toPt_neg, ← toPt_add, ← toPt_nsmul]
  exact ⟨congrArg toPt (add_comm A B), congrArg toPt (add_assoc A B C), congrArg toPt (add_zero A),
    congrArg toPt (add_neg_cancel A),
    fun j k => ⟨congrArg toPt (add_nsmul A j k).symm, congrArg toPt (mul_nsmul' A j k).symm⟩⟩

end FieldPoints

/-! ## G1 -/

/-- A level of the tower whose nonzero values have inverses, as a field of Mathlib's with the model's inverse. -/
abbrev RingLaws.field {T : Type} {zero one : T} {add sub mul : T → T → T} {neg inv : T → T}
    (h : RingLaws zero one add sub mul neg) (hone : one ≠ zero) (hinv : ∀ a, a ≠ zero → mul a (inv a) = one)
    (hinv0 : inv zero = zero) : Field T :=
  { h.commRing with
    inv := inv
    exists_pair_ne := ⟨one, zero, hone⟩
    mul_inv_cancel := hinv
    inv_zero := hinv0
    nnqsmul := _
    nnqsmul_def := fun _ _ => rfl
    qsmul := _
    qsmul_def := fun _ _ => rfl }

theorem fp_inv_zero : Fp.zero.inv = Fp.zero := by decide +kernel

/-- Fp as a field (42_fp.md R225). -/
abbrev fpField : Field Fp := fp_ringLaws.field (by decide) (fun _ => fp_mul_inv) fp_inv_zero

theorem fpOps_eq_opsOfField :
    letI := fpField
    fpOps = opsOfField Fp := rfl

/-- The discriminant −432·b² of G1's curve is not 0. -/
theorem g1_discriminant_ne_zero :
    letI := fpField
    (shortCurve (Fp.ofNat 3)).Δ ≠ 0 := by decide +kernel

/-- Settles O37: Fp is a field and G1's curve has no singular point, so that its points are Mathlib's group. -/
theorem groupLawsG1 : Obligations.GroupLawsG1 := by
  intro p q r hp hq hr
  let _ := fpField
  rw [g1OnCurve_iff, fpOps_eq_opsOfField] at hp hq hr
  exact ptAdd_groupLaws g1_discriminant_ne_zero hp hq hr

end Sys2Proof.Machine
end

section
/-! The .G2 sums, and the points of the twist as Mathlib's group (47_g2.md R390 to R395, R402). -/

namespace Sys2Proof.Machine

theorem isSum_g2Add {p q : G2} (hp : g2OnCurve p = true) (hq : g2OnCurve q = true) :
    IsSum fp2Ops p q (g2Add p q) :=
  isSum_ptAdd (o := fp2Ops) fp2_ringLaws (fun _ => fp2_mul_inv) ((g2OnCurve_iff p).1 hp) ((g2OnCurve_iff q).1 hq)

/-- R393's tag of a sum. -/
theorem ofG2_join (m n : Form) (r : G2) :
    ofG2 (m.join n) r = if m = .aff ∧ n = .aff then .g2 r else .g2j r := by
  cases m <;> cases n <;> rfl

/-- Settles O34: the operands are read, and the law's slopes times their denominators are its numerators. -/
theorem pointAddG2 : Obligations.PointAddG2 := by
  intro s rd rs1 m p hp hpc
  refine ⟨fun rs2 n q hq hqc => ⟨g2Add p q, isSum_g2Add hpc hqc, ?_⟩, ⟨g2Add p p, isSum_g2Add hpc hpc, ?_⟩⟩
  · have hsrcs : srcs s rs1 asG2 rs2 asG2 = .ok ((m, p), (n, q)) :=
      srcs_of_reg hp hq (ofG2_ne_empty m p) (ofG2_ne_empty n q) (asG2_ofG2 m p) (asG2_ofG2 n q)
    rw [← ofG2_join]
    exact commitReg_map_ok _ hsrcs
  · exact commitReg_map_ok _ (src_of_ofG2 hp)

theorem fp2_inv_zero : Fp2.zero.inv = Fp2.zero := by decide +kernel

/-- Fp2 as a field (43_fp2.md R270). -/
abbrev fp2Field : Field Fp2 := fp2_ringLaws.field (by decide) (fun _ => fp2_mul_inv) fp2_inv_zero

theorem fp2Ops_eq_opsOfField :
    letI := fp2Field
    fp2Ops = opsOfField Fp2 := rfl

/-- The discriminant −432·b₂² of the twist is not 0. -/
theorem g2_discriminant_ne_zero :
    letI := fp2Field
    (shortCurve twistB).Δ ≠ 0 := by decide +kernel

/-- Settles O38: Fp2 is a field and the twist has no singular point, so that its points are Mathlib's group. -/
theorem groupLawsG2 : Obligations.GroupLawsG2 := by
  intro p q r hp hq hr
  let _ := fp2Field
  rw [g2OnCurve_iff, fp2Ops_eq_opsOfField] at hp hq hr
  exact ptAdd_groupLaws g2_discriminant_ne_zero hp hq hr

end Sys2Proof.Machine
end

section
/-! The Miller unit's instructions but MILLER: MLINIT, the LOOP step of MLSTEP and its traps, the reads, and the
length of a run (48_pairing.md R421 to R434). -/

namespace Sys2Proof.Machine

/-! ## MLINIT -/

/-- Settles O44: the operands are read, and MLINIT writes the whole unit. -/
theorem mlinitResult : Obligations.MlinitResult := by
  intro s rs1 rs2 m n q p hq hp
  change commitMl ((srcs s rs1 asG2 rs2 asG1).map _) s = _
  rw [srcs_of_points hq hp]
  rfl

/-! ## The line (R422, R423) -/

section Line
variable {xt yt xs ys : Fp2} {xp yp : Fp}

/-- The line through finite points can be formed but where it is the tangent at a point with y = 0 (R424 (b)). -/
theorem line_eq_none_iff :
    line (.aff xt yt) (.aff xs ys) (.aff xp yp) = none ↔ xt = xs ∧ yt = ys ∧ yt = Fp2.zero := by
  by_cases hx : xt = xs
  · by_cases hy : yt = ys
    · by_cases hy0 : yt = Fp2.zero <;> simp [line, hx, ← hy, hy0]
    · simp [line, hx, hy]
  · simp [line, hx]

/-- A line that can be formed has the slope of its chord or of its tangent, or is vertical. -/
theorem isLine_of_line {l : Fp12} (h : line (.aff xt yt) (.aff xs ys) (.aff xp yp) = some l) :
    IsLine xt yt xs ys xp yp l := by
  rw [line] at h
  split at h
  · next hx =>
    split at h
    · next hy =>
      split at h
      · cases h
      · next hy0 =>
        obtain rfl := Option.some.inj h
        have hslope := tangentSlope_mul (o := fp2Ops) fp2_ringLaws (fun _ => fp2_mul_inv) xt (fp2_add_self_ne_zero hy0)
        exact .inr (.inl ⟨hx, hy, hy0, _, hslope, lineNonvert_eq_nonvert ..⟩)
    · next hy =>
      obtain rfl := Option.some.inj h
      exact .inr (.inr ⟨hx, hy, lineVert_eq_vert ..⟩)
  · next hx =>
    obtain rfl := Option.some.inj h
    have hslope := chordSlope_mul (o := fp2Ops) fp2_ringLaws (fun _ => fp2_mul_inv) yt ys (fp2_sub_ne_zero hx)
    exact .inl ⟨hx, _, hslope, lineNonvert_eq_nonvert ..⟩

/-- A line through S with y ≠ 0 is no tangent at a point with y = 0, whatever T is: it is multiplied into f, and S is
added to T. -/
theorem exists_lineAndAdd_of_second_y_ne_zero {t sPt : G2} {p : G1} (f : Fp12) (ht : t = .aff xt yt)
    (hs : sPt = .aff xs ys) (hp : p = .aff xp yp) (hys : ys ≠ Fp2.zero) :
    ∃ l, IsLine xt yt xs ys xp yp l ∧
      lineAndAdd f t sPt p = some (f.mul l, g2Add (.aff xt yt) (.aff xs ys), l) := by
  subst ht hs hp
  have h : ¬ (xt = xs ∧ yt = ys ∧ yt = Fp2.zero) := fun ⟨_, hy, hy0⟩ => hys (hy.symm.trans hy0)
  obtain ⟨l, hl⟩ := Option.ne_none_iff_exists'.1 (line_eq_none_iff.not.2 h)
  exact ⟨l, isLine_of_line hl, by rw [lineAndAdd, hl]⟩

/-- R423's places of a NONVERT value. -/
theorem val_coeffAt_nonvert (lam : Fp2) {k : Nat} (hk : k < 12) (h0 : k ≠ 0) (h6 : k ≠ 6) (h7 : k ≠ 7) (h8 : k ≠ 8)
    (h9 : k ≠ 9) : (coeffAt (nonvert lam xt yt xp yp).coeffs k).val = 0 := by
  obtain rfl | rfl | rfl | rfl | rfl | rfl | rfl : k = 1 ∨ k = 2 ∨ k = 3 ∨ k = 4 ∨ k = 5 ∨ k = 10 ∨ k = 11 := by omega
  all_goals rfl

/-- R423's places of a VERT value. -/
theorem val_coeffAt_vert {k : Nat} (hk : k < 12) (h0 : k ≠ 0) (h2 : k ≠ 2) (h3 : k ≠ 3) :
    (coeffAt (vert xt xp).coeffs k).val = 0 := by
  obtain rfl | rfl | hk : k = 1 ∨ k = 4 ∨ 5 ≤ k := by omega
  · rfl
  · rfl
  · interval_cases k <;> rfl

/-- A NONVERT value is sparse, and its coefficient 0 is −yP. -/
theorem nonvert_sparse (lam : Fp2) :
    (∀ k < 12, k ≠ 0 → k ≠ 6 → k ≠ 7 → k ≠ 8 → k ≠ 9 → (coeffAt (nonvert lam xt yt xp yp).coeffs k).val = 0) ∧
      ((coeffAt (nonvert lam xt yt xp yp).coeffs 0).val : Int) = (-(yp.val : Int)) % P :=
  ⟨fun _ => val_coeffAt_nonvert lam, intCast_val_fp_neg_eq_neg_emod yp⟩

/-- Settles O51: the value is NONVERT with the chord's or the tangent's slope, or VERT. -/
theorem lineIsSparse : Obligations.LineIsSparse := by
  intro xt yt xs ys xp yp l hline
  have hl := isLine_of_line hline
  refine ⟨hl, ?_⟩
  obtain ⟨-, lam, -, rfl⟩ | ⟨-, -, -, lam, -, rfl⟩ | ⟨-, -, rfl⟩ := hl
  · exact .inl (nonvert_sparse lam)
  · exact .inl (nonvert_sparse lam)
  · exact .inr ⟨fun _ => val_coeffAt_vert, rfl⟩

end Line

/-! ## MLSTEP in LOOP (R425) -/

/-- Doubling a finite point with y ≠ 0 gives a finite point. -/
theorem exists_g2Add_self {x y : Fp2} (hy : y ≠ Fp2.zero) :
    ∃ x2 y2, g2Add (.aff x y) (.aff x y) = .aff x2 y2 :=
  ⟨_, _, ptAdd_tangent fp2Ops (fp2_add_self_ne_zero hy)⟩

/-- After the tangent's half of a LOOP step, the bit of ATE decides on the line through Q. -/
theorem loopBody_of_tangent {u : Miller} {f l : Fp12} {t : G2}
    (h : lineAndAdd (u.f.mul u.f) u.t u.t u.p = some (f, t, l)) :
    loopBody u = if ate.testBit u.i.toNat then lineAndAdd f t u.q u.p else some (f, t, l) := by
  rw [loopBody, h]

theorem millerStep_of_loop {u : Miller} {f l : Fp12} {t : G2} (hst : u.st = .loop) (h : loopBody u = some (f, t, l)) :
    millerStep u = .ok (afterLoop u f t l) := by
  simp only [millerStep, hst, stepLoop, h, afterLoop]
  by_cases hi : u.i = 0
  · simp only [if_pos hi]
  · simp only [if_neg hi]

/-- Settles O45: T has y ≠ 0 for the tangent, and Q has for the second line, so each can be formed. -/
theorem mlstepLoop : Obligations.MlstepLoop := by
  intro s x y xq yq xp yp hst ht hy hq hyq hp
  obtain ⟨l1, hl1, htangent⟩ := exists_lineAndAdd (s.ml.f.mul s.ml.f) ht ht hp hy
  obtain ⟨x2, y2, h2⟩ := exists_g2Add_self (x := x) hy
  rw [h2] at htangent
  refine ⟨l1, x2, y2, hl1, h2, fun hbit => ?_, fun hbit => ?_⟩
  · have hbody := (loopBody_of_tangent htangent).trans (if_neg (Bool.eq_false_iff.1 hbit))
    exact exec_mlstep_of_ok (millerStep_of_loop hst hbody)
  · obtain ⟨l2, hl2, hline⟩ := exists_lineAndAdd_of_second_y_ne_zero ((s.ml.f.mul s.ml.f).mul l1) rfl hq hp hyq
    have hbody := ((loopBody_of_tangent htangent).trans (if_pos hbit)).trans hline
    exact ⟨l2, hl2, exec_mlstep_of_ok (millerStep_of_loop hst hbody)⟩

/-! ## MLSTEP's exceptions (R424, R428) -/

theorem exec_mlstep_of_error {s : State} {e : Exc} (h : millerStep s.ml = .error e) :
    exec .mlstep s = .next (s.faulted e.code e.info) := by
  change commitMl (millerStep s.ml) s = _
  rw [h, commitMl, trap_eq_faulted]

theorem millerStep_of_done {u : Miller} (h : u.st = .done) : millerStep u = .error (.mlState .done) := by
  rw [millerStep, h]

theorem lineAndAdd_inf (f : Fp12) (sPt : G2) (p : G1) : lineAndAdd f .inf sPt p = none := rfl

/-- The tangent at a point with y = 0 cannot be formed, whatever P is. -/
theorem lineAndAdd_tangent_zero (f : Fp12) (x : Fp2) (p : G1) :
    lineAndAdd f (.aff x Fp2.zero) (.aff x Fp2.zero) p = none := by
  cases p with
  | inf => rfl
  | aff xp yp => rw [lineAndAdd, line_eq_none_iff.2 ⟨rfl, rfl, rfl⟩]

/-- A LOOP step is degenerate where the tangent at T cannot be formed. -/
theorem millerStep_of_loop_degenerate {u : Miller} (hst : u.st = .loop)
    (h : lineAndAdd (u.f.mul u.f) u.t u.t u.p = none) : millerStep u = .error (.mlDegenerate .loop) := by
  simp only [millerStep, hst, stepLoop, loopBody, h]

/-- Settles O47: each of these steps ends in its exception, and its code and info are R480's. -/
theorem mlstepTraps : Obligations.MlstepTraps := by
  intro s
  refine ⟨fun hst => exec_mlstep_of_error (millerStep_of_idle hst),
    fun hst => exec_mlstep_of_error (millerStep_of_done hst),
    fun ht hst => exec_mlstep_of_error (millerStep_of_loop_degenerate hst (by rw [ht, lineAndAdd_inf])),
    fun ht hst => exec_mlstep_of_error (e := .mlDegenerate .frob1) ?_,
    fun ht hst => exec_mlstep_of_error (e := .mlDegenerate .frob2) ?_,
    fun x ht hst => exec_mlstep_of_error (millerStep_of_loop_degenerate hst (by rw [ht, lineAndAdd_tangent_zero]))⟩
  · simp only [millerStep, hst, stepFrob1, ht, lineAndAdd_inf]
  · simp only [millerStep, hst, stepFrob2, ht, lineAndAdd_inf]

/-! ## The length of a run (R434) -/

theorem millerStepN_keeps_q_p {k : Nat} {u v : Miller} (h : millerStepN k u = some v) : v.q = u.q ∧ v.p = u.p := by
  induction k generalizing u with
  | zero =>
    cases h
    exact ⟨rfl, rfl⟩
  | succ k ih =>
    rw [millerStepN] at h
    split at h
    · next w hw =>
      obtain ⟨hwq, hwp, -⟩ := millerStep_ok hw
      obtain ⟨hvq, hvp⟩ := ih h
      exact ⟨hvq.trans hwq, hvp.trans hwp⟩
    · cases h

/-- A run from finite inputs has all 66 steps before it. -/
theorem stepsLeft_millerInit_of_finite {q : G2} {p : G1} (hq : q ≠ .inf) (hp : p ≠ .inf) :
    (millerInit q p).stepsLeft = millerSteps := by
  simp [Miller.stepsLeft, millerInit, millerSteps, hq, hp]

/-- The number of steps left tells the state and, in LOOP, ML_I. -/
theorem st_of_stepsLeft {u : Miller} (hu : u.st ≠ .idle) :
    (3 ≤ u.stepsLeft → u.st = .loop ∧ u.i.toNat + 3 = u.stepsLeft) ∧ (u.stepsLeft = 2 → u.st = .frob1) ∧
      (u.stepsLeft = 1 → u.st = .frob2) ∧ (u.stepsLeft = 0 → u.st = .done) := by
  cases hst : u.st <;> simp_all [Miller.stepsLeft]

/-- Settles O49: each completed step is one of the 66 that are left at MLINIT. -/
theorem millerRunLength : Obligations.MillerRunLength := by
  intro q p k u hq hp h
  obtain ⟨huq, hup⟩ := millerStepN_keeps_q_p h
  obtain ⟨hidle, hleft⟩ := stepsLeft_of_millerStepN h (millerInit_st_ne_idle q p)
  rw [stepsLeft_millerInit_of_finite hq hp, millerSteps] at hleft
  obtain ⟨hloop, hfrob1, hfrob2, hdone⟩ := st_of_stepsLeft hidle
  refine ⟨by omega, huq, hup, fun hk => ?_, fun hk => hfrob1 (by omega), fun hk => hfrob2 (by omega),
    fun hk => hdone (by omega)⟩
  obtain ⟨hst, hi⟩ := hloop (by omega)
  exact ⟨hst, by omega⟩

/-! ## The reads (R430, R432, R433) -/

theorem commitReg_readMl {s : State} {rd : RegIdx} {v : RegVal} (h : s.ml.st ≠ .idle) :
    commitReg rd (readMl s.ml v) s = .next (s.setReg rd v).advance := by rw [readMl, if_neg h]; rfl

theorem commitReg_readMl_of_idle {s : State} {rd : RegIdx} {v : RegVal} (h : s.ml.st = .idle) :
    commitReg rd (readMl s.ml v) s = .next (s.faulted 9 0) := commitReg_error (readMl_of_idle h v)

/-- Settles O50: each read commits its field, or the trap in IDLE. -/
theorem millerReads : Obligations.MillerReads := fun _ _ =>
  ⟨fun h => ⟨commitReg_readMl h, commitReg_readMl h, commitReg_readMl h⟩,
    fun h => ⟨commitReg_readMl_of_idle h, commitReg_readMl_of_idle h, commitReg_readMl_of_idle h⟩⟩

end Sys2Proof.Machine
end

section
/-! The final exponentiation's properties (49_final_exp.md R461, R464), from r dividing P^6 + 1. -/

namespace Sys2Proof.Machine

/-! ## The involution is the power P^6 -/

/-- ξ is no square in Fp2, so that w^(P^6) = −w. -/
theorem fp12W_pow_P_pow_six :
    letI := fp12_ringLaws.commRing
    fp12W ^ (P ^ 6) = -fp12W := by
  let _ := fp2_ringLaws.commRing
  let _ := fp12_ringLaws.commRing
  have hxi : Fp2.xi ^ ((P ^ 6 - 1) / 6) = -1 := by
    have hm : (P ^ 6 - 1) / 6 = (P ^ 2 - 1) / 2 * ((P ^ 4 + P ^ 2 + 1) / 3) := by decide
    have hodd : Odd ((P ^ 4 + P ^ 2 + 1) / 3) := by decide
    have hhalf : Fp2.xi ^ ((P ^ 2 - 1) / 2) = -1 := (fp2_pow_eq_npow ..).symm.trans xi_pow_P_sq_sub_one_div_two
    rw [hm, pow_mul, hhalf, hodd.neg_one_pow]
  rw [root_pow_eq fp12OfFp2Hom fp12W_pow_six (m := (P ^ 6 - 1) / 6) (by decide), hxi, map_neg, map_one, neg_one_mul]

/-- CONJ is the power P^6 (45_fp12.md R332). -/
theorem fp12_conj_eq_pow (a : Fp12) :
    letI := fp12_ringLaws.commRing
    a.conj = a ^ (P ^ 6) := by
  have : Fact P.Prime := ⟨P_prime⟩
  let _ := fp6_ringLaws.commRing
  let _ := fp12_ringLaws.commRing
  have := fp12_charP
  have hbase (c : Fp6) : fp12OfFp6Hom c ^ (P ^ 6) = fp12OfFp6Hom c := by rw [← map_pow, fp6_pow_P_pow_six]
  conv_rhs => rw [fp12_eq_polynomial a, add_pow_char_pow, mul_pow, hbase, hbase, fp12W_pow_P_pow_six]
  rw [fp12_eq_polynomial a.conj, mul_neg, ← neg_mul, ← map_neg]
  rfl

/-! ## Powers in Fp12 -/

theorem fp12_pow_eq_npow (a : Fp12) (e : Nat) :
    letI := fp12_ringLaws.commRing
    a.pow e = a ^ e :=
  (fp12_pow_eq_iterate a e).trans (fp12_ringLaws.iterate_mul_eq_pow a e)

/-- A nonzero value that the power n + 1 fixes has the power n equal to 1. -/
theorem fp12_pow_eq_one_of_pow_succ {a : Fp12} (ha : a ≠ Fp12.zero) {n : Nat} :
    letI := fp12_ringLaws.commRing
    a ^ (n + 1) = a → a ^ n = 1 := by
  let _ := fp12_ringLaws.commRing
  intro h
  have hinv : a * a.inv = 1 := fp12_mul_inv ha
  calc a ^ n = a ^ n * (a * a.inv) := by rw [hinv, mul_one]
    _ = a ^ (n + 1) * a.inv := by rw [pow_succ, mul_assoc]
    _ = 1 := by rw [h, hinv]

/-- The order of every nonzero value divides P^12 − 1. -/
theorem fp12_pow_P_pow_twelve_sub_one {a : Fp12} (ha : a ≠ Fp12.zero) :
    letI := fp12_ringLaws.commRing
    a ^ (P ^ 12 - 1) = 1 :=
  fp12_pow_eq_one_of_pow_succ ha (fp12_pow_P_pow_twelve a)

/-! ## The result of FEXP (R464) -/

theorem finalExp_pow_groupOrder {f : Fp12} (hf : f ≠ Fp12.zero) : (finalExp f).pow groupOrder = Fp12.one := by
  let _ := fp12_ringLaws.commRing
  rw [fp12_pow_eq_npow, finalExp, fp12_pow_eq_npow, ← pow_mul, finalExponent_mul_groupOrder]
  exact fp12_pow_P_pow_twelve_sub_one hf

/-- A value of order dividing r is unitary: its product with its image under CONJ is its power P^6 + 1. -/
theorem fp12_mul_conj_eq_one {y : Fp12} (hy : y.pow groupOrder = Fp12.one) : y.mul y.conj = Fp12.one := by
  let _ := fp12_ringLaws.commRing
  obtain ⟨m, hm⟩ : groupOrder ∣ P ^ 6 + 1 := by decide +kernel
  have hord : y ^ groupOrder = 1 := (fp12_pow_eq_npow ..).symm.trans hy
  have hpow : y ^ (P ^ 6 + 1) = 1 := by rw [hm, pow_mul, hord, one_pow]
  rw [fp12_conj_eq_pow]
  exact (pow_succ' y (P ^ 6)).symm.trans hpow

/-- Of a value of order dividing r, POW by r writes 1, and INV and CONJ write one value. -/
theorem exec_of_order_dvd {t : State} {y : Fp12} {k : Scalar} {rd rk rp : RegIdx} (hrd : t.reg rd = .fp12 y)
    (hrk : t.reg rk = .sc k) (hk : k.toNat = groupOrder) (hy : y.pow groupOrder = Fp12.one) :
    exec (.powFp12 rp rd rk) t = .next (t.setReg rp (.fp12 Fp12.one)).advance ∧
      exec (.invFp12 rp rd) t = .next (t.setReg rp (.fp12 y.conj)).advance ∧
      exec (.conjFp12 rp rd) t = .next (t.setReg rp (.fp12 y.conj)).advance := by
  have hunit := fp12_mul_conj_eq_one hy
  have hy0 : y ≠ Fp12.zero := by
    rintro rfl
    rw [fp12_ringLaws.zero_mul] at hunit
    exact absurd hunit (by decide)
  have hinv : y.inv = y.conj := fp12_ringLaws.inverse_unique hunit (fp12_mul_inv hy0)
  have hsrc : src t rd asFp12 = .ok y := src_of_reg hrd nofun rfl
  have hsrcs : srcs t rd asFp12 rk asSc = .ok (y, k) := srcs_of_reg hrd hrk nofun nofun rfl rfl
  rw [← hy, ← hk]
  refine ⟨commitReg_map_ok _ hsrcs, ?_, commitReg_map_ok _ hsrc⟩
  rw [← hinv]
  exact commitReg_inv_of_ne_zero (fun a => .fp12 a.inv) hsrc hy0

/-- Settles O53: the order of the result divides r, hence P^6 + 1, and CONJ is the power P^6. -/
theorem fexpProperties : Obligations.FexpProperties := by
  intro s rd rs1 rk rp f hne hf hf0 hk
  have hpower : (fun x => x.mul (finalExp f))^[P ^ 12] Fp12.one = finalExp f :=
    (fp12_ringLaws.iterate_mul_eq_pow ..).trans (fp12_pow_P_pow_twelve _)
  have hrd : ((s.setReg rd (.fp12 (finalExp f))).advance).reg rd = .fp12 (finalExp f) := by simp
  have hrk := (reg_setReg_ne s (.fp12 (finalExp f)) hne.symm).trans hk
  obtain ⟨hpow, hinv, hconj⟩ := exec_of_order_dvd (rp := rp) hrd hrk (by decide) (finalExp_pow_groupOrder hf0)
  exact ⟨_, _, _, exec_fexp_of_ne_zero hf hf0, hrd, hpow, hinv, hconj, hpower⟩

/-- P^6 − 1 divides E, and the power P^6 fixes Fp6. -/
theorem finalExp_ofFp6 {c : Fp6} (hc : c ≠ Fp6.zero) : finalExp (Fp12.ofFp6 c) = Fp12.one := by
  have hc' : Fp12.ofFp6 c ≠ Fp12.zero := fun h => hc (congrArg Fp12.c0 h)
  let _ := fp6_ringLaws.commRing
  let _ := fp12_ringLaws.commRing
  have hfix : Fp12.ofFp6 c ^ (P ^ 6 - 1 + 1) = Fp12.ofFp6 c := by
    rw [Nat.sub_add_cancel (by decide)]
    exact (map_pow fp12OfFp6Hom c (P ^ 6)).symm.trans (congrArg Fp12.ofFp6 (fp6_pow_P_pow_six c))
  obtain ⟨m, hm⟩ : P ^ 6 - 1 ∣ finalExponent := by decide +kernel
  rw [finalExp, fp12_pow_eq_npow, hm, pow_mul, fp12_pow_eq_one_of_pow_succ hc' hfix]
  exact one_pow m

/-- Settles O54: a power of a product is the product of the powers, and E is a multiple of P^6 − 1. -/
theorem fexpHomomorphism : Obligations.FexpHomomorphism := by
  refine ⟨fun a b => ?_, fun c hc => finalExp_ofFp6 hc⟩
  let _ := fp12_ringLaws.commRing
  simp only [finalExp, fp12_pow_eq_npow]
  exact mul_pow a b finalExponent

end Sys2Proof.Machine
end

section
/-! The engine's cycle (60_exceptions.md R481, R482, R486, R492, R561), and DIV_BY_ZERO (R490). -/

namespace Sys2Proof.Machine

/-! ## Every step answers -/

/-- Every commit answers a next state, and so does each path of MILLER. -/
theorem exists_exec_next (i : Instr) (s : State) : ∃ t, exec i s = .next t := by
  cases exec_commits i s with
  | reg rd r _ _ h | flag r _ _ h | store _ _ _ _ _ _ _ _ h | ml r _ _ h | goto h | halt _ h => exact ⟨_, h⟩
  | miller rd rs1 rs2 _ h =>
    rw [h, execMiller]
    split
    · exact ⟨_, rfl⟩
    · split
      · exact ⟨_, rfl⟩
      · exact ⟨_, rfl⟩

theorem exists_engineStep_next (s : State) : ∃ t, engineStep s = .next t := by
  rw [engineStep]
  split
  · split
    · exact exists_exec_next _ s
    · exact ⟨_, rfl⟩
  · exact ⟨s, rfl⟩

/-- Settles O7: an access of the host and a reset answer, and so does every instruction. -/
theorem everyStepAnswers : Obligations.EveryStepAnswers := by
  intro s
  rw [step]
  split
  · exact exists_engineStep_next s
  · exact exists_engineStep_next _
  all_goals exact ⟨_, rfl⟩

/-! ## The cycle -/

section Cycle
variable {s : State}

theorem engineStep_of_fetch_ok {i : Instr} (hbusy : s.run = .busy) (h : fetch s = .ok i) : engineStep s = exec i s := by
  rw [engineStep, if_pos hbusy, h]

theorem engineStep_of_fetch_error {e : Exc} (hbusy : s.run = .busy) (h : fetch s = .error e) :
    engineStep s = .next (trap e s) := by
  rw [engineStep, if_pos hbusy, h]

theorem engineStep_of_not_busy (h : s.run ≠ .busy) : engineStep s = .next s := if_neg h

theorem fetch_of_decode_ok {i : Instr} (hpc : s.pc.toNat < Config.imemWords)
    (h : decode (imemWord s s.pc.toNat) = .ok i) : fetch s = .ok i := by rw [fetch, if_pos hpc, h]

theorem fetch_of_decode_illegal {why : Illegal} (hpc : s.pc.toNat < Config.imemWords)
    (h : decode (imemWord s s.pc.toNat) = .illegal why) : fetch s = .error .illegalInsn := by
  rw [fetch, if_pos hpc, h]

theorem fetch_of_pc_outside (hpc : Config.imemWords ≤ s.pc.toNat) : fetch s = .error (.fetchBounds s.pc) :=
  if_neg (Nat.not_lt.2 hpc)

theorem step_of_queue_empty (h : s.hostQ = []) : step s = engineStep s := by
  rw [step, h]

theorem step_of_pass {q : List HostAct} (h : s.hostQ = .pass :: q) : step s = engineStep { s with hostQ := q } := by
  rw [step, h]

end Cycle

/-- Settles O5: the fetch answers what the word decodes to, and a decoded instruction is well formed. -/
theorem stepRunsDecoded : Obligations.StepRunsDecoded := by
  intro s i hbusy hpc hdec
  refine ⟨(encodeOfDecode _ i hdec).2, fun hq => ?_, fun q hq => ?_⟩
  · rw [step_of_queue_empty hq, engineStep_of_fetch_ok hbusy (fetch_of_decode_ok hpc hdec)]
  · rw [step_of_pass hq]
    exact engineStep_of_fetch_ok hbusy (fetch_of_decode_ok hpc hdec)

/-- Settles O6: each failing fetch is its trap, which records the fetched word or 0. -/
theorem engineCycleTraps : Obligations.EngineCycleTraps := by
  intro s hq
  rw [step_of_queue_empty hq]
  refine ⟨fun hbusy hpc => ?_, fun hbusy hpc why hdec => ?_, engineStep_of_not_busy⟩
  · have hword : fetchedWord s = 0 := if_neg (Nat.not_lt.2 hpc)
    have hinfo : (Exc.fetchBounds s.pc).info = BitVec.ofNat 32 s.pc.toNat := (BitVec.ofNat_toNat 32 s.pc).symm
    rw [engineStep_of_fetch_error hbusy (fetch_of_pc_outside hpc), trap, hword, hinfo]
    rfl
  · have hword : fetchedWord s = imemWord s s.pc.toNat := if_pos hpc
    rw [engineStep_of_fetch_error hbusy (fetch_of_decode_illegal hpc hdec), trap, hword]
    rfl

/-! ## DIV_BY_ZERO -/

/-- INV or FEXP of an operand that is read and is the zero of its level. -/
theorem commitReg_of_zero {α : Type} [DecidableEq α] {s : State} {rd rs1 : RegIdx} {want : RegVal → Option α} {a : α}
    (zero : α) (f : α → RegVal) (hsrc : src s rs1 want = .ok a) (h : a = zero) :
    commitReg rd ((src s rs1 want).bind fun a => if a = zero then .error (.divByZero rs1) else .ok (f a)) s =
      .next (s.faulted 8 (BitVec.ofNat 32 rs1.toNat)) := by
  have hanswer : ((src s rs1 want).bind fun a => if a = zero then .error (.divByZero rs1) else .ok (f a)) =
      .error (.divByZero rs1) := by simp only [hsrc, Except.bind, if_pos h]
  have hinfo : (Exc.divByZero rs1).info = BitVec.ofNat 32 rs1.toNat := (BitVec.ofNat_toNat 32 rs1).symm
  rw [commitReg_error hanswer, hinfo]
  rfl

/-- Settles O27: the operand is read, and its coefficients make it the zero of its level. -/
theorem divByZeroTraps : Obligations.DivByZeroTraps := by
  intro s rd rs1
  refine ⟨fun a ha h => ?_, fun a ha h => ?_, fun a ha h => ?_, fun a ha h => ?_⟩
  · exact commitReg_of_zero Fp.zero (fun a => .fp a.inv) (src_of_reg (want := asFp) ha nofun rfl) (Fp.ext_val h)
  · exact commitReg_of_zero Fp2.zero (fun a => .fp2 a.inv) (src_of_reg (want := asFp2) ha nofun rfl)
      ((fp2_eq_zero_iff a).2 h)
  · exact commitReg_of_zero Fp6.zero (fun a => .fp6 a.inv) (src_of_reg (want := asFp6) ha nofun rfl)
      ((fp6_eq_zero_iff a).2 h)
  · have hsrc : src s rs1 asFp12 = .ok a := src_of_reg ha nofun rfl
    have hzero := (fp12_eq_zero_iff a).2 h
    exact ⟨commitReg_of_zero Fp12.zero (fun a => .fp12 a.inv) hsrc hzero,
      commitReg_of_zero Fp12.zero (fun a => .fp12 (finalExp a)) hsrc hzero⟩

end Sys2Proof.Machine
end
